-- ==== Sys2Proof/Word.lean ====
section
/-! DEFINITION. The widths and limits of the part's quantities (00_scope.md, Conventions; R173). -/

namespace Sys2Proof

/-- A byte of the tariff image or of a frame. -/
abbrev Byte := BitVec 8

/-- The number of values of an 8-bit quantity: epochs are counted modulo this (R36). -/
abbrev byteSpan : Nat := 256

/-- The number of values of a 16-bit quantity: origin sequences are counted modulo this (R3). -/
abbrev wordSpan : Nat := 65536

/-- The number of values of a 32-bit quantity. -/
abbrev longSpan : Nat := 4294967296

/-- The greatest zone time (R26). -/
abbrev zoneTimeMax : Nat := 4294967295

/-- Seconds of a tariff day (R28). -/
abbrev daySeconds : Nat := 86400

/-- Minutes of a tariff day (R28). -/
abbrev dayMinutes : Nat := 1440

end Sys2Proof
end

