-- ==== Sys2Proof/Syntax.lean ====
section
/-! DEFINITION. The vocabulary of the part's commands and `Instr`, one constructor for each row of opcode_table.json. -/

namespace Sys2Proof

/-- R5, R6: the access mode chosen at START. -/
inductive AccessMode | priority | fair
deriving DecidableEq, Repr

/-- R2, R4: the class of a frame, its access priority; the first is the highest. -/
inductive FrameClass | urgent | claim | record | bulk
deriving DecidableEq, Repr

/-- R151: the station's standing toward the public. -/
inductive ServiceState | inService | degraded | outOfService | hold
deriving DecidableEq, Repr

/-- R129: the grading of the box. -/
inductive FillBand | normal | nearFull | full
deriving DecidableEq, Repr

/-- R103: the kind of a permit. -/
inductive PermitClass | resident | visitorBook | business | trade
deriving DecidableEq, Repr

/-- R44, R77: the classes that a tariff table gives a treatment. -/
inductive TreatmentClass | residentOwnZone | residentOtherZone | business | trade
deriving DecidableEq, Repr

/-- R80: the kind of a stay record. -/
inductive StayKind | paid | visitorDay
deriving DecidableEq, Repr

/-- R166: the level of a notice kind. -/
inductive NoticeLevel | high | low | off
deriving DecidableEq, Repr

/-- R146: the 22 fault kinds, in the order of the table of kinds. -/
inductive FaultKind
  | printer | paperLow | paperOut | coinPath | cardReader | display | keypad | powerLow
  | hostSilent | timeUnset | noTariff | boxFull | boxNearFull | forcedDoor | doorOpenLong
  | clockDisagree | duplicateStation | tariffBehind | retainedLost
  | stayConflict | stayTableFull | permitBlocked
deriving DecidableEq, Repr

/-- R146: the severities. -/
inductive Severity | info | warning | degradedCash | degradedCard | service
deriving DecidableEq, Repr

/-- R154: what a fault report tells. -/
inductive Transition | raised | cleared | refresh
deriving DecidableEq, Repr

/-- R106: the action of a block-list range. -/
inductive BlockAction | refuse | note
deriving DecidableEq, Repr

/-- R159: the selector of FAULT READ. -/
inductive FaultSelector | table | inbox
deriving DecidableEq, Repr

/-- R40: a tariff scheme and its revision. -/
structure TariffName where
  id : Nat
  version : Nat
deriving DecidableEq, Repr

/-- R80: the identity of a stay record across the zone. -/
structure Identity where
  origin : Nat
  number : Nat
  start : Nat
deriving DecidableEq, Repr

/-- R80: the permit under which a record was priced. -/
structure PermitMark where
  cls : PermitClass
  serial : Nat
deriving DecidableEq, Repr

/-- R80: a stay record; the retire time is computed and not held (`retireTime`). -/
structure StayRecord where
  id : Identity
  key : Nat
  kind : StayKind
  expiry : Nat
  minutes : Nat
  expiryDay : Nat
  dayMinutes : Nat
  dayAccrual : Nat
  dayGross : Nat
  grossTotal : Nat
  paidTotal : Nat
  tariff : TariffName
  maxStay : Nat
  noReturn : Nat
  extensions : Nat
  lastBy : Option Nat
  permit : Option PermitMark
deriving DecidableEq, Repr

/-- R103: a permit record as the host presents it. The class is its code byte, 0 to 3 assigned (10.3), since an unknown
class is one of the forms R103 answers. -/
structure PermitRecord where
  serial : Nat
  classCode : Nat
  issuingZone : Nat
  validFrom : Nat
  validTo : Nat
  boundKey : Nat
  allowance : Option Nat
deriving DecidableEq, Repr

/-- R58: what is asked of a walk. -/
inductive Asked
  | amount (pence : Nat)
  | duration (minutes : Nat)
deriving DecidableEq, Repr

/-- R83, R127: the tender of a SELL; a CASH tender carries a count for each value of the set in force. -/
inductive Tender
  | card
  | cash (counts : List Nat)
deriving DecidableEq, Repr

/-- R77: QUOTE. The treatment class is its code, 0 to 3 assigned (10.5). -/
structure QuoteRequest where
  asked : Asked
  start : Option Nat
  treatment : Option Nat
  extend : Option Identity
deriving DecidableEq, Repr

/-- R83: SELL. -/
structure SellRequest where
  key : Nat
  asked : Asked
  extend : Option Identity
  permit : Option PermitRecord
  tender : Tender
deriving DecidableEq, Repr

/-- R106: a set of the four permit classes. -/
structure ClassSet where
  resident : Bool
  visitorBook : Bool
  business : Bool
  trade : Bool
deriving DecidableEq, Repr

/-- R106: one range of the block list. -/
structure BlockRange where
  low : Nat
  high : Nat
  classes : ClassSet
  action : BlockAction
deriving DecidableEq, Repr

/-- R167: the configuration START carries, and the reading of the station-number straps (log 9). `none` stands for a value
outside an enumeration; the levels are those of the ten kinds in the order of R166. -/
structure StartRequest where
  zone : Nat
  mode : Option AccessMode
  hopLimit : Nat
  statusPeriod : Nat
  liveness : Nat
  sink : Option Bool
  denominations : List Nat
  capacity : Nat
  levels : List (Option NoticeLevel)
  straps : Nat
deriving DecidableEq, Repr

/-- R163: the 22 requests. -/
inductive Request
  | start (r : StartRequest)
  | restart
  | queryStatus
  | setTime (time : Nat)
  | tariffLoad (offset : Nat) (chunk : List Byte)
  | tariffCommit
  | tariffDiscard
  | quote (r : QuoteRequest)
  | sell (r : SellRequest)
  | lookup (key : Nat)
  | permitCheck (permit : PermitRecord) (key : Nat)
  | claimVisitorDay (permit : PermitRecord) (key : Nat)
  | blockListLoad (ranges : List BlockRange)
  | roundOpen (collectorKey collectorId : Nat)
  | roundClose
  | roundRead
  | snapshot
  | snapshotRead
  | faultRaise (kind detail : Nat)
  | faultClear (kind : Nat)
  | faultRead (selector : FaultSelector)
  | neighboursRead
deriving DecidableEq, Repr

/-- What a request frame holds (R163, R173): a code outside the table, a body that is malformed for its code, or a request. -/
inductive FrameContent
  | unknown (code : Nat)
  | malformed (code : Nat)
  | request (r : Request)
deriving DecidableEq, Repr

/-- A request frame as the host writes it into the inbound mailbox (10.4): the bytes written, code, length, body and check in
their order; and, for the requests whose body chapter 10 does not lay out, the request that the body's bytes spell, none where
they are malformed for their code (log 1). -/
structure WrittenFrame where
  octets : List Byte
  spelled : Option Request
deriving DecidableEq, Repr

/-- A request frame as the machine link judges it (R163): whether its length field agrees with the number of bytes written,
whether its check is the one of R174, and what it holds. -/
structure LinkFrame where
  lengthAgrees : Bool
  checkAgrees : Bool
  content : FrameContent
deriving DecidableEq, Repr

/-- R1, R11: the header of a zone frame as heard, with its body length, whether every enumeration of the body holds an
assigned code (R173), and the bytes of the whole frame as they came, the two of the check last, over which the receiver
computes the check (R174; log 8). -/
structure RxHeader where
  zone : Nat
  sender : Nat
  origin : Nat
  seq : Nat
  hop : Nat
  relay : Bool
  cls : FrameClass
  time : Nat
  epoch : Nat
  timeSet : Bool
  bodyLength : Nat
  codesAssigned : Bool
  octets : List Byte
deriving DecidableEq, Repr

/-- R140: the id of a round. -/
structure RoundId where
  time : Nat
  station : Nat
deriving DecidableEq, Repr

/-- R140: a round entry. -/
structure RoundEntry where
  station : Nat
  lastAt : Nat
  items : Nat
  value : Nat
deriving DecidableEq, Repr

/-- R18: the body of a STATUS frame. -/
structure StatusBody where
  service : ServiceState
  distance : Nat
  band : FillBand
  tariff : Option TariffName
  round : Option RoundId
  period : Nat
deriving DecidableEq, Repr

/-- R109: a claim id. -/
structure ClaimId where
  origin : Nat
  seq : Nat
deriving DecidableEq, Repr

/-- R114: the body of CLAIM OPEN. `idSeq` is the claim id's sequence for attempts 2 and 3. -/
structure ClaimOpenBody where
  idSeq : Nat
  serial : Nat
  day : Nat
  key : Nat
  openTime : Nat
  allowance : Nat
  attempt : Nat
deriving DecidableEq, Repr

/-- R115: the body of CLAIM FIRM. -/
structure ClaimFirmBody where
  idSeq : Nat
  serial : Nat
  day : Nat
  key : Nat
  openTime : Nat
deriving DecidableEq, Repr

/-- R118: the body of CLAIM RELEASE. -/
structure ClaimReleaseBody where
  idSeq : Nat
  serial : Nat
  day : Nat
  key : Nat
deriving DecidableEq, Repr

/-- A claim carried by an OBJECT body (10.2); its book and day are the body's. -/
structure CarriedClaim where
  id : ClaimId
  key : Nat
  openTime : Nat
deriving DecidableEq, Repr

/-- R116: the body of OBJECT COUNT. -/
structure ObjectCountBody where
  target : ClaimId
  serial : Nat
  day : Nat
  carried : List CarriedClaim
deriving DecidableEq, Repr

/-- R116, R117: the body of OBJECT HELD and OBJECT CONCURRENT, which carry one claim (10.2). -/
structure ObjectOneBody where
  target : ClaimId
  serial : Nat
  day : Nat
  carried : CarriedClaim
deriving DecidableEq, Repr

/-- R142: the body of ROUND OPEN. -/
structure RoundOpenBody where
  id : RoundId
  collector : Option Nat
deriving DecidableEq, Repr

/-- R142: the body of ROUND ENTRY. -/
structure RoundEntryBody where
  id : RoundId
  collector : Option Nat
  entry : RoundEntry
deriving DecidableEq, Repr

/-- R142: the body of ROUND CLOSE. -/
structure RoundCloseBody where
  id : RoundId
deriving DecidableEq, Repr

/-- R154: a fault report; the origin station is filled when it enters an inbox or is handed (R155). -/
structure FaultReport where
  origin : Nat
  kind : FaultKind
  severity : Severity
  transition : Transition
  eventTime : Nat
  eventEpoch : Nat
  eventSet : Bool
  raisedAt : Nat
  detail : Nat
  occurrences : Nat
deriving DecidableEq, Repr

/-- R155: the body of a FAULT frame; the report's origin is the frame's origin (10.2). -/
structure FaultBody where
  report : FaultReport
  distance : Nat
deriving DecidableEq, Repr

/-- The commands: one constructor for each row of opcode_table.json. -/
inductive Instr
  | start (r : StartRequest)
  | restart
  | queryStatus
  | setTime (time : Nat)
  | tariffLoad (offset : Nat) (chunk : List Byte)
  | tariffCommit
  | tariffDiscard
  | quote (r : QuoteRequest)
  | sell (r : SellRequest)
  | lookup (key : Nat)
  | permitCheck (permit : PermitRecord) (key : Nat)
  | claimVisitorDay (permit : PermitRecord) (key : Nat)
  | blockListLoad (ranges : List BlockRange)
  | roundOpen (collectorKey collectorId : Nat)
  | roundClose
  | roundRead
  | snapshot
  | snapshotRead
  | faultRaise (kind detail : Nat)
  | faultClear (kind : Nat)
  | faultRead (selector : FaultSelector)
  | neighboursRead
  | mailboxWrite (frame : WrittenFrame)
  | mailboxRead (whole : Bool)
  | statusFrame (h : RxHeader) (body : StatusBody)
  | stayFrame (h : RxHeader) (records : List StayRecord)
  | claimOpenFrame (h : RxHeader) (body : ClaimOpenBody)
  | claimFirmFrame (h : RxHeader) (body : ClaimFirmBody)
  | claimReleaseFrame (h : RxHeader) (body : ClaimReleaseBody)
  | objectHeldFrame (h : RxHeader) (body : ObjectOneBody)
  | objectCountFrame (h : RxHeader) (body : ObjectCountBody)
  | objectConcurrentFrame (h : RxHeader) (body : ObjectOneBody)
  | roundOpenFrame (h : RxHeader) (body : RoundOpenBody)
  | roundEntryFrame (h : RxHeader) (body : RoundEntryBody)
  | roundCloseFrame (h : RxHeader) (body : RoundCloseBody)
  | faultFrame (h : RxHeader) (body : FaultBody)
  | carrierEnd
  | channelGap
  | contentionSlot (slot : Nat)
  | idleWindow
  | transmitCompletion
  | statusTimerExpiry
  | directTimerExpiry (station : Nat)
  | silenceTimerExpiry (station : Nat)
  | duplicateStationExpiry
  | secondCount
  | walkEnd
  | objectionWindowExpiry
  | waitingPeriodExpiry
  | ageingTimerExpiry (claim : ClaimId)
  | doorOpening
  | doorClosing
  | boxRemoval
  | boxInsertion
  | authorizationTimerExpiry
  | doorTimerExpiry
  | livenessTimerExpiry
  | refreshTimerExpiry (kind : FaultKind)
  | powerUp (outage : Nat) (spoiled : Bool)
  | resetLine
  | carrierSensed
  | resetLineRelease
  | mainPowerLoss
deriving DecidableEq, Repr

end Sys2Proof
end

