-- ==== Sys2Proof/Decode.lean ====
section
/-! DEFINITION. The commands a word of the opcode table spells: none, since the table gives no row bits. -/

namespace Sys2Proof

/-- The command of a word by the table's bits. No row of the table has bits: the commands are requests, frames and events,
whose layouts are those of chapter 10 (Machine/Wire.lean). -/
def decodeTableWord (_nbits _w : Nat) : Option Instr := none

end Sys2Proof
end

