-- ==== Sys2Proof/Config.lean ====
section
/-! DEFINITION. The free values: what the spec leaves open and the part nevertheless has. None has a body, so nothing can be
proved of which value it is (logs 4, 16, 17, 18). -/

namespace Sys2Proof

/-- R164: when a notice and a response both become ready while the outbound mailbox is empty, the outcome depends on which
is taken first. The n-th such choice of a run is `noticeFirst n` (log 4). -/
opaque Config.noticeFirst : Nat → Bool

/-- R13, R14: a sequence exactly 32768 from the window's highest sequence is neither newer nor older. `halfwayNewer H q`
says whether the part takes it as newer or as too old (log 16). -/
opaque Config.halfwayNewer : Nat → Nat → Bool

/-- 00_scope.md, Money: accumulators are unsigned 32-bit quantities. The sum of two that does not fit is not stated; it is
`sumBeyond x y` (log 17). -/
opaque Config.sumBeyond : Nat → Nat → Nat

/-- R133: the whole minutes since opened at, when zone time `now` has been set back behind `opened`, are not stated
(log 18). -/
opaque Config.minutesBefore : Nat → Nat → Nat

end Sys2Proof
end

