-- ==== Sys2Proof/Machine/State.lean ====
section
/-! DEFINITION. The part's state as plain data: every piece of state the spec gives it (INVENTORY.md lists them with their
rules), the queue of waiting commands, and the state after reset. -/

namespace Sys2Proof.Machine

/-- Why the model would stop. The spec gives every command an effect in every state, so nothing raises a fault; the one
constructor is kept for an outcome outside the spec and no meaning answers with it (safe: no behaviour rests on it). -/
inductive Fault
  /-- Raised by nobody; safe. -/
  | outsideSpec
deriving DecidableEq, Repr

/-- Why the model would decline a command. -/
inductive Refusal
  /-- Raised by an arm of `exec` for a command without a meaning; safe: the run stops there. -/
  | notModelled (mnemonic : String)
deriving DecidableEq, Repr

/-! ### Retained items (R171) -/

/-- R26: the zone clock's three items. -/
structure Clock where
  time : Nat
  epoch : Nat
  set : Bool
deriving DecidableEq, Repr

/-- R41: the kind of a tariff band. -/
inductive BandKind | charged | free | closed
deriving DecidableEq, Repr

/-- R41: a band of a day programme. -/
structure TariffBand where
  start : Nat
  kind : BandKind
  ladder : Option Nat
  maxStay : Nat
  noReturn : Nat
deriving DecidableEq, Repr

/-- R42: a step of a ladder. -/
structure LadderStep where
  threshold : Nat
  unit : Nat
  price : Nat
deriving DecidableEq, Repr

/-- R40, R43: an override pair. -/
structure OverridePair where
  day : Nat
  programme : Nat
deriving DecidableEq, Repr

/-- R44: a permit treatment; `fullPrice` is the spec's NONE. -/
inductive Treatment
  | exempt
  | discount (percent : Nat)
  | fullPrice
deriving DecidableEq, Repr

/-- R40: the four permit treatments of a table. -/
structure Treatments where
  residentOwnZone : Treatment
  residentOtherZone : Treatment
  business : Treatment
  trade : Treatment
deriving DecidableEq, Repr

/-- R40: a tariff table, its activation time resolved (R49) in the pending and active areas (R45). -/
structure TariffTable where
  name : TariffName
  activation : Nat
  programmes : List (List TariffBand)
  ladders : List (List LadderStep)
  weekdays : List Nat
  overrides : List OverridePair
  minimum : Nat
  dayCap : Nat
  treatments : Treatments
deriving DecidableEq, Repr

/-- R124, R126: the set in force and the box counters kept by it. -/
structure BoxCounters where
  denominations : List Nat
  counts : List Nat
  items : Nat
  value : Nat
  sales : Nat
  excess : Nat
deriving DecidableEq, Repr

/-- R134: the cause of a collection entry. -/
inductive CollectionCause | removed | foundAbsent
deriving DecidableEq, Repr

/-- R134: a collection entry. -/
structure Collection where
  box : BoxCounters
  time : Nat
  cause : CollectionCause
  round : Option RoundId
deriving DecidableEq, Repr

/-- R130: how an opening was made. -/
inductive OpeningKind | authorized | forced
deriving DecidableEq, Repr

/-- R130: the door record. -/
structure DoorRecord where
  doorOpen : Bool
  boxAbsent : Bool
  openedAt : Option Nat
  closedAt : Option Nat
  openings : Nat
  latest : Option OpeningKind
  authorizedBy : Option Nat
  forcedOutstanding : Bool
deriving DecidableEq, Repr

/-- R138: a snapshot. -/
structure Snapshot where
  box : BoxCounters
  time : Nat
  doorOpen : Bool
  boxAbsent : Bool
  round : Option RoundId
deriving DecidableEq, Repr

/-- R140: what one station has collected in a round, without its number. -/
structure RoundSum where
  lastAt : Nat
  items : Nat
  value : Nat
deriving DecidableEq, Repr

/-- R140: a collection round. `unplaced` is the own entry of collections latched before START has given the own station
number (log 22). -/
structure Round where
  id : RoundId
  collector : Option Nat
  isOpen : Bool
  entries : List RoundEntry
  unplaced : Option RoundSum
deriving DecidableEq, Repr

/-- R171: the items of the retained store. -/
structure Retained where
  clock : Clock
  active : Option TariffTable
  awaiting : Option TariffTable
  blockList : List BlockRange
  box : BoxCounters
  lastCollection : Option Collection
  door : DoorRecord
  snapshot : Option Snapshot
  round : Option Round
  ticket : Nat
  seq : Nat
deriving DecidableEq, Repr

/-! ### Zone link controller -/

/-- A frame body as handed for transmission (R1): a STATUS body is assembled, and a FAULT body's sender distance filled,
when the transmission begins (R18, R155). -/
inductive QueuedBody
  | status
  | stay (records : List StayRecord) (again : Bool)
  | claimOpen (b : ClaimOpenBody)
  | claimFirm (b : ClaimFirmBody)
  | claimRelease (b : ClaimReleaseBody)
  | objectCount (b : ObjectCountBody)
  | objectHeld (b : ObjectOneBody)
  | objectConcurrent (b : ObjectOneBody)
  | roundOpen (b : RoundOpenBody)
  | roundEntry (b : RoundEntryBody)
  | roundClose (b : RoundCloseBody)
  | fault (made : Nat) (r : FaultReport)
deriving DecidableEq, Repr

/-- R8: an entry of the transmit queue; the queue lists entries in order of admission. -/
structure TxEntry where
  body : QueuedBody
  origin : Nat
  seq : Nat
  hop : Nat
  relay : Bool
  cls : FrameClass
  copy : Bool
  sending : Bool
deriving DecidableEq, Repr

/-- A frame body as it stands on the channel (10.2). -/
inductive AirBody
  | status (b : StatusBody)
  | stay (records : List StayRecord)
  | claimOpen (b : ClaimOpenBody)
  | claimFirm (b : ClaimFirmBody)
  | claimRelease (b : ClaimReleaseBody)
  | objectCount (b : ObjectCountBody)
  | objectHeld (b : ObjectOneBody)
  | objectConcurrent (b : ObjectOneBody)
  | roundOpen (b : RoundOpenBody)
  | roundEntry (b : RoundEntryBody)
  | roundClose (b : RoundCloseBody)
  | fault (b : FaultBody)
deriving DecidableEq, Repr

/-- R1: a frame as its transmission begins. -/
structure AirFrame where
  zone : Nat
  sender : Nat
  origin : Nat
  seq : Nat
  hop : Nat
  relay : Bool
  cls : FrameClass
  time : Nat
  epoch : Nat
  timeSet : Bool
  body : AirBody
deriving DecidableEq, Repr

/-- R7, R174: what is being sent: the frame, and its bytes with the check computed over them as it is sent. -/
structure Sending where
  frame : AirFrame
  octets : List Byte
deriving DecidableEq, Repr

/-- R4, R5: the channel as the station reckons it. `window last` is a contention window in which slot `last` is the latest
that has begun; `deaf` is a station that does not listen (R24, R25). -/
inductive ChannelPhase
  | deaf
  | gap
  | window (last : Option Nat)
  | carrier
  | sending
deriving DecidableEq, Repr

/-- R20: the state of a neighbour entry. -/
inductive NeighbourState | unheard | fresh | stale
deriving DecidableEq, Repr

/-- R19: the values a STATUS frame reports, the tariff absent where the frame carries none. -/
structure Reported where
  service : ServiceState
  distance : Nat
  band : FillBand
  tariff : Option TariffName
  period : Nat
deriving DecidableEq, Repr

/-- R13: a de-duplication window: the highest sequence H and the marks of H - 1 (bit 0) back to H - 32 (bit 31). -/
structure SeqWindow where
  high : Nat
  marks : BitVec 32
deriving DecidableEq, Repr

/-- R20: a neighbour entry; the timers hold the seconds left, absent while stopped. -/
structure Neighbour where
  state : NeighbourState
  lastHeard : Option Nat
  direct : Bool
  reported : Option Reported
  disputed : Bool
  window : Option SeqWindow
  directTimer : Option Nat
  silenceTimer : Option Nat
deriving DecidableEq, Repr

/-- R20: the initial values of a neighbour entry. -/
def Neighbour.initial : Neighbour :=
  { state := .unheard, lastHeard := none, direct := false, reported := none, disputed := false, window := none,
    directTimer := none, silenceTimer := none }

/-- The zone link controller's working state. `neighbours` holds the entry of station n at place n - 1; the own number's
place keeps its initial value. -/
structure ChannelBlock where
  phase : ChannelPhase
  spent : Bool
  queue : List TxEntry
  onAir : Option Sending
  neighbours : List Neighbour
  distance : Nat
  statusTimer : Option Nat
  duplicateTimer : Option Nat
deriving DecidableEq, Repr

/-! ### Charge engine -/

/-- R57, R61: the last-bought marks, with the minute itself, whose end is the expiry (R69). -/
structure LastBought where
  minute : Nat
  c : Nat
  a : Nat
deriving DecidableEq, Repr

/-- R57: the quantities of a walk, by the spec's letters, and the no-return period of the start band once it is found
(R63). -/
structure WalkRegs where
  m : Nat
  n : Nat
  c : Nat
  a : Nat
  T : Nat
  X : Nat
  k : Nat
  noReturn : Nat
  last : Option LastBought
deriving DecidableEq, Repr

/-- What a SELL keeps for its commit (R87, R88, R128). -/
structure SaleTerms where
  key : Nat
  tender : Tender
  examined : List Nat
  permit : Option PermitMark
deriving DecidableEq, Repr

/-- R57, R58: the walk in progress. `sale` is absent for a QUOTE. -/
structure Walk where
  table : TariffTable
  start : Nat
  s0 : Nat
  asked : Asked
  discount : Nat
  continued : Option StayRecord
  sale : Option SaleTerms
  regs : WalkRegs
deriving DecidableEq, Repr

/-- R65: the clamp reasons. -/
inductive ClampReason | unclamped | maxStay | closed | endOfCharging | horizon
deriving DecidableEq, Repr

/-- R75: the result record of a walk. -/
structure WalkResult where
  asked : Asked
  start : Nat
  expiry : Nat
  bought : Nat
  minutes : Nat
  gross : Nat
  discount : Nat
  price : Nat
  excess : Nat
  clamp : ClampReason
  tariff : TariffName
  limits : Option (Nat × Nat)
  expiryDay : Nat
  dayMinutes : Nat
  dayAccrual : Nat
  dayGross : Nat
deriving DecidableEq, Repr

/-! ### Stay table -/

/-- R82: a record of the table and its unannounced mark. -/
structure StayEntry where
  record : StayRecord
  unannounced : Bool
deriving DecidableEq, Repr

/-- R82: a table-order key. -/
structure TableKey where
  retire : Nat
  origin : Nat
  number : Nat
  start : Nat
deriving DecidableEq, Repr

/-- R82: the stay table. -/
structure StayTable where
  entries : List StayEntry
  cursor : Option TableKey
deriving DecidableEq, Repr

/-! ### Permit unit -/

/-- R109: the state of a claim. -/
inductive ClaimState | pending | waiting | provisional | firm
deriving DecidableEq, Repr

/-- R109: a claim of the claim list; the ageing timer runs for a PROVISIONAL claim. -/
structure Claim where
  serial : Nat
  day : Nat
  key : Nat
  id : ClaimId
  openTime : Nat
  state : ClaimState
  ageing : Option Nat
deriving DecidableEq, Repr

/-- R117: the claim that a WAITING claim waits for. -/
structure ClaimRef where
  id : ClaimId
  openTime : Nat
deriving DecidableEq, Repr

/-- R109: what the claim in flight carries beyond its list fields. -/
structure Flight where
  cls : PermitClass
  allowance : Nat
  attempts : Nat
  awaiting : Bool
  sent : Bool
  window : Option Nat
  waitFor : Option ClaimRef
  waitTimer : Option Nat
deriving DecidableEq, Repr

/-- The permit unit's working state: the claim list in insertion order, and the claim in flight. -/
structure PermitBlock where
  claims : List Claim
  flight : Option Flight
deriving DecidableEq, Repr

/-! ### Cash unit -/

/-- R131: the authorization and the seconds left of its timer. -/
structure Authorization where
  key : Nat
  left : Nat
deriving DecidableEq, Repr

/-- The cash unit's working state. -/
structure CashBlock where
  waitingSet : Option (List Nat)
  capacity : Option Nat
  band : Option FillBand
  auth : Option Authorization
  doorTimer : Option Nat
deriving DecidableEq, Repr

/-! ### Fault unit -/

/-- A report with its place in the order in which reports were made (R155, R156). -/
structure MadeReport where
  made : Nat
  report : FaultReport
deriving DecidableEq, Repr

/-- R147: an entry of the fault table. `lastAdmitted` is the place in the order of making of the latest-made of the entry's
reports that left the unit (R155). -/
structure FaultEntry where
  active : Bool
  raisedAt : Option Nat
  clearedAt : Option Nat
  occurrences : Nat
  detail : Nat
  lastReported : Option Nat
  refresh : Option Nat
  deferred : Option MadeReport
  lastAdmitted : Option Nat
deriving DecidableEq, Repr

/-- R147: the initial values of a fault entry. -/
def FaultEntry.initial : FaultEntry :=
  { active := false, raisedAt := none, clearedAt := none, occurrences := 0, detail := 0, lastReported := none,
    refresh := none, deferred := none, lastAdmitted := none }

/-- R158: a report in the sink inbox. -/
structure InboxReport where
  report : FaultReport
  seq : Option Nat
  enteredAt : Nat
deriving DecidableEq, Repr

/-- The fault unit's state; the table holds the entry of a kind at the place of its code. -/
structure FaultBlock where
  table : List FaultEntry
  service : ServiceState
  liveness : Option Nat
  quiet : Nat
  inbox : List InboxReport
  overflow : Bool
  made : Nat
deriving DecidableEq, Repr

/-! ### Machine link -/

/-- R173: the 60 refusal reasons, in the order of their codes. -/
inductive Reason
  | allowanceUsed | alreadyHeld | alreadyStarted | amountTooSmall | badBand | badCapacity | badDenominations
  | badDiscount | badIdentity | badLadderReference | badLimits | badMode | badOverride | badPrice | badRange
  | badThreshold | badUnit | badWeekdayMap | badZone | belowMinimum | blocked | busy | claimInProgress
  | claimListFull | closed | coveredByPermit | exempt | expired | extensionLimit | hold | imageForm
  | imageIncomplete | liveSession | maxStay | noBoxRoom | noReturn | noRound | noSnapshot | noTariff
  | notExtendable | notSink | notVisitorBook | notYetValid | nothingStaged | nothingToBuy | outOfService
  | recordChanged | shortPayment | tariffBehind | tariffMismatch | tenderBarred | tenderChanged | timeUnset
  | unitStraddlesStep | unknownTicket | versionNotNewer | visitor | wrongVehicle | wrongZone | zoneBusy
deriving DecidableEq, Repr

/-- R165: the results. -/
inductive Result
  | done
  | pending
  | refused (reason : Reason)
  | badRequest
  | notStarted
  | badFrame
deriving DecidableEq, Repr

/-- R170: the start reasons. -/
inductive StartReason | cold | power | line | request
deriving DecidableEq, Repr

/-- R168: the configuration in force. -/
structure Configuration where
  zone : Nat
  mode : AccessMode
  hopLimit : Nat
  statusPeriod : Nat
  liveness : Nat
  sink : Bool
  denominations : List Nat
  capacity : Nat
  levels : List NoticeLevel
deriving DecidableEq, Repr

/-- R168: a started station: its number, 0 in LOCAL mode, and its configuration. -/
structure Running where
  number : Nat
  config : Configuration
deriving DecidableEq, Repr

/-- R35: the causes of a time step. -/
inductive StepCause | learnt | epoch | set
deriving DecidableEq, Repr

/-- R130: the four events of the lines. -/
inductive LineEvent | opening | closing | removal | insertion
deriving DecidableEq, Repr

/-- R152: what changed the service state. -/
inductive ServiceCause
  | fault (kind : FaultKind)
  | compartment (event : LineEvent)
deriving DecidableEq, Repr

/-- R145: the causes of ROUND CHANGED. -/
inductive RoundCause | opened | joined | adopted | merged | closed | expired
deriving DecidableEq, Repr

/-- R107: the requests in which a block-list hit can arise. -/
inductive CheckUse | permitCheck | sell | claimVisitorDay
deriving DecidableEq, Repr

/-- R118: the outcomes of a claim, each with its further item. -/
inductive ClaimOutcome
  | granted (ticket : Identity)
  | alreadyHeld (holder : ClaimRef)
  | deniedAllowanceUsed (count : Nat)
  | deniedZoneBusy
  | deniedExpiredDay (today : Nat)
deriving DecidableEq, Repr

/-- R166: the ten notice kinds, in the order of their codes. -/
inductive NoticeKind
  | claimResult | hostQuiet | serviceChanged | tariffSwitched | roundChanged | timeStepped | boxBand | blockHit
  | faultInbox | door
deriving DecidableEq, Repr

/-- The notices and what each carries (R118, R153, R152, R51, R145, R35, R129, R107, R160, R130). -/
inductive NoticeBody
  | claimResult (id : ClaimId) (serial key day attempts : Nat) (outcome : ClaimOutcome)
  | hostQuiet (period : Nat)
  | serviceChanged (previous new : ServiceState) (cashBarred cardBarred : Bool) (cause : ServiceCause)
  | tariffSwitched (previous : Option TariffName) (new : TariffName) (activation at_ : Nat)
  | roundChanged (cause : RoundCause) (id : RoundId) (collector : Option Nat) (isOpen : Bool) (entries : Nat)
  | timeStepped (cause : StepCause) (time epoch newTime newEpoch : Nat)
  | boxBand (previous : Option FillBand) (new : FillBand) (items capacity : Nat)
  | blockHit (serial : Nat) (cls : PermitClass) (range : Nat) (action : BlockAction) (use : CheckUse) (at_ : Nat)
  | faultInbox (reports : Nat) (overflow : Bool)
  | door (event : LineEvent) (record : DoorRecord) (collection : Option Collection)
deriving DecidableEq, Repr

/-- R166: a notice with the zone time at which its body was last given. -/
structure Notice where
  body : NoticeBody
  givenAt : Nat
deriving DecidableEq, Repr

/-- R100: the state of a record against the present zone time, with the time that goes with it. -/
inductive LookState
  | live (expiry : Nat)
  | inNoReturn (until_ : Nat)
  | clear
deriving DecidableEq, Repr

/-- R47: the position of a failing element. -/
inductive ImagePosition
  | whole
  | band (programme band : Nat)
  | step (ladder step : Nat)
  | pair (index : Nat)
deriving DecidableEq, Repr

/-- R105: what a permit that passes is worth. The treatment is absent while there is no active table. -/
inductive PermitWorth
  | valid (cls : TreatmentClass) (treatment : Option Treatment)
  | visitor (allowance : Nat)
deriving DecidableEq, Repr

/-- R168: START's response; the marks of the fields clamped or raised are hop limit, status period, liveness period and
capacity. -/
structure StartReport where
  number : Nat
  config : Configuration
  marks : Bool × Bool × Bool × Bool
  denominations : List Nat
  setWaiting : Bool
  reason : StartReason
deriving DecidableEq, Repr

/-- R23: an item of NEIGHBOURS READ. -/
structure NeighbourItem where
  station : Nat
  state : NeighbourState
  direct : Bool
  lastHeard : Option Nat
  disputed : Bool
  reported : Option Reported
deriving DecidableEq, Repr

/-- R23: the body of NEIGHBOURS READ; in LOCAL mode `number` is 0 and there are no items. -/
structure NeighboursReport where
  number : Nat
  mode : AccessMode
  hopLimit : Nat
  distance : Nat
  items : List NeighbourItem
deriving DecidableEq, Repr

/-- R159: an item of FAULT READ TABLE. -/
structure FaultItem where
  active : Bool
  raisedAt : Option Nat
  clearedAt : Option Nat
  occurrences : Nat
  detail : Nat
  lastReported : Option Nat
  holdsDeferred : Bool
deriving DecidableEq, Repr

/-- R122: the own claim in flight as QUERY STATUS gives it. -/
structure FlightReport where
  state : ClaimState
  id : ClaimId
  serial : Nat
  key : Nat
  attempts : Nat
deriving DecidableEq, Repr

/-- R169: the body of QUERY STATUS, block by block. -/
structure QueryReport where
  running : Option Running
  reason : StartReason
  clock : Clock
  active : Option TariffName
  awaiting : Option (TariffName × Nat)
  stagingFilling : Bool
  records : Nat
  ownRecords : Nat
  unannounced : Nat
  ticket : Nat
  flight : Option FlightReport
  claims : Nat
  activeRanges : Nat
  setInForce : List Nat
  waitingSet : Option (List Nat)
  capacity : Option Nat
  box : BoxCounters
  band : Option FillBand
  door : DoorRecord
  auth : Option Authorization
  snapshotHeld : Bool
  round : Option (RoundId × Bool)
  service : ServiceState
  activeFaults : Nat
  deferredReports : Nat
  inbox : Option (Nat × Bool)
  distance : Nat
  freshNeighbours : Nat
deriving DecidableEq, Repr

/-- The bodies of responses, as the owning chapters give them. -/
inductive RespBody
  | empty
  | started (r : StartReport)
  | timeSet (previous new : Clock)
  | marked (bytes : Nat)
  | position (p : ImagePosition)
  | committed (isActive : Bool) (name : TariffName) (activation : Option Nat)
  | discarded (wasFilling : Bool) (dropped : Option TariffName)
  | quoted (r : WalkResult)
  | sold (r : WalkResult) (id : Identity) (kind : StayKind) (extensions retire : Nat)
  | clamp (reason : ClampReason)
  | price (pence : Nat)
  | holder (id : Identity) (expiry : Nat)
  | earliestReturn (time : Nat)
  | boxRoom (items capacity : Nat)
  | found (count : Nat) (records : List (LookState × StayRecord)) (now : Nat) (timeSet : Bool)
  | judged (today : Nat) (timeSet : Bool) (worth : Option PermitWorth)
  | claimOpened (id : ClaimId) (day openTime : Nat)
  | claim (id : ClaimId)
  | claimHolder (ref : ClaimRef)
  | vehicles (count : Nat)
  | ranges (isActive : Nat)
  | range (index : Nat)
  | roundOpened (cause : RoundCause) (id : RoundId) (collector : Option Nat) (left : Nat)
  | roundClosed (id : RoundId)
  | rounds (round : Option Round) (last : Option Collection)
  | snapshotAt (time : Nat) (wasHeld : Bool)
  | snapshot (s : Snapshot)
  | raised (occurrences : Nat) (service : ServiceState)
  | cleared (notActive : Bool) (service : ServiceState)
  | standing (service : ServiceState)
  | faultTable (items : List FaultItem)
  | inbox (reports : List InboxReport) (remaining : Nat) (overflow : Bool)
  | neighbours (r : NeighboursReport)
  | status (r : QueryReport)
deriving DecidableEq, Repr

/-- R165: a response: the request code, the result with its reason, the body, and the overrun flag taken when it is placed
(R163). -/
structure Response where
  code : Nat
  result : Result
  body : RespBody
  overrun : Bool
deriving DecidableEq, Repr

/-- R162: what the outbound mailbox can hold. -/
inductive Outbound
  | response (r : Response)
  | notice (n : Notice)
deriving DecidableEq, Repr

/-- The machine link's state. `choices` counts the free choices of R164 taken so far; it is the model's own field (log 4). -/
structure MachineLink where
  running : Option Running
  reason : StartReason
  inbound : Option LinkFrame
  waiting : Option Response
  outbound : Option Outbound
  overrun : Bool
  notices : List Notice
  choices : Nat
deriving DecidableEq, Repr

/-! ### The whole -/

/-- R171: the readings of the backup domain's marker. -/
inductive Marker | blank | valid | broken
deriving DecidableEq, Repr

/-- Main power, the backup marker, and the lines as they stand (R130, R171, R172). -/
structure Supply where
  power : Bool
  marker : Marker
  doorOpen : Bool
  boxAbsent : Bool
  resetHeld : Bool
deriving DecidableEq, Repr

/-- The state of the part and its queue of waiting commands. -/
structure State where
  supply : Supply
  ret : Retained
  chan : ChannelBlock
  day : Nat
  staging : List Host.Cell
  walk : Option Walk
  stay : StayTable
  permits : PermitBlock
  cash : CashBlock
  faults : FaultBlock
  link : MachineLink
  pending : List Instr
deriving DecidableEq, Repr

/-! ### Initial values -/

/-- R106: an inactive range with serials 0 and action NOTE. -/
def BlockRange.inactive : BlockRange :=
  { low := 0, high := 0, classes := ⟨false, false, false, false⟩, action := .note }

/-- R126: the box counters of a set with nothing counted. -/
def BoxCounters.zero (denominations : List Nat) : BoxCounters :=
  { denominations, counts := denominations.map fun _ => 0, items := 0, value := 0, sales := 0, excess := 0 }

/-- R130: the door record after a cold start. -/
def DoorRecord.initial : DoorRecord :=
  { doorOpen := false, boxAbsent := false, openedAt := none, closedAt := none, openings := 0, latest := none,
    authorizedBy := none, forcedOutstanding := false }

/-- R171: every retained item at its initial value. -/
def Retained.initial : Retained :=
  { clock := { time := 0, epoch := 0, set := false }, active := none, awaiting := none,
    blockList := List.replicate 16 BlockRange.inactive, box := BoxCounters.zero [], lastCollection := none,
    door := DoorRecord.initial, snapshot := none, round := none, ticket := 1, seq := 0 }

/-- R25: the link controller's working state at a start. -/
def ChannelBlock.initial : ChannelBlock :=
  { phase := .deaf, spent := false, queue := [], onAir := none, neighbours := List.replicate 30 Neighbour.initial,
    distance := 7, statusTimer := none, duplicateTimer := none }

/-- R101: the stay table at a start. -/
def StayTable.initial : StayTable := { entries := [], cursor := none }

/-- R111, R122: the permit unit at a start. -/
def PermitBlock.initial : PermitBlock := { claims := [], flight := none }

/-- R124, R125, R129, R131: the cash unit's working state at a start. -/
def CashBlock.initial : CashBlock :=
  { waitingSet := none, capacity := none, band := none, auth := none, doorTimer := none }

/-- R161: the fault unit at a start, before the start's raises. -/
def FaultBlock.initial : FaultBlock :=
  { table := List.replicate 22 FaultEntry.initial, service := .inService, liveness := none, quiet := 0, inbox := [],
    overflow := false, made := 0 }

/-- R170: the machine link at a start with the given reason; the counter of free choices runs on. -/
def MachineLink.initial (reason : StartReason) (choices : Nat) : MachineLink :=
  { running := none, reason, inbound := none, waiting := none, outbound := none, overrun := false, notices := [],
    choices }

/-- The fault entry of a SERVICE condition raised once, at zone time 0, by the cold start, its report deferred as the
`made`-th of the start (R148, R155, R161). -/
def FaultEntry.raisedAtReset (kind : FaultKind) (made : Nat) : FaultEntry :=
  { active := true, raisedAt := some 0, clearedAt := none, occurrences := 1, detail := 0, lastReported := none,
    refresh := some 600,
    deferred := some { made, report := {
      origin := 0, kind, severity := .service, transition := .raised, eventTime := 0, eventEpoch := 0,
      eventSet := false, raisedAt := 0, detail := 0, occurrences := 1 } },
    lastAdmitted := none }

/-- The part right after reset: a cold start taken from a BLANK backup domain with the door closed, the box present and the
reset line released (R55, R161, R170, R171; log 7). TIME UNSET and NO TARIFF are raised, their reports deferred, and the
service state derived from them (R38, R53, R152). -/
def State.reset : State :=
  { supply := { power := true, marker := .valid, doorOpen := false, boxAbsent := false, resetHeld := false }
    ret := Retained.initial
    chan := ChannelBlock.initial
    day := 0
    staging := []
    walk := none
    stay := StayTable.initial
    permits := PermitBlock.initial
    cash := CashBlock.initial
    faults := { FaultBlock.initial with
      table := ((List.replicate 22 FaultEntry.initial).set 9 (FaultEntry.raisedAtReset .timeUnset 0)).set 10
        (FaultEntry.raisedAtReset .noTariff 1)
      service := .outOfService
      made := 2 }
    link := MachineLink.initial .cold 0
    pending := [] }

end Sys2Proof.Machine
end

