-- ==== Sys2Proof/Machine/Flags.lean ====
section
/-! DEFINITION. What the blocks read off the state: derived quantities, conditions, comparisons and codes. Nothing here
changes the state. -/

namespace Sys2Proof.Machine

/-! ### Readings of the clock and of the station's standing -/

/-- The zone time. -/
def State.now (s : State) : Nat := s.ret.clock.time

/-- R28: the tariff day number of a zone time. -/
def tariffDay (z : Nat) : Nat := z / daySeconds

/-- R28: the weekday index of a tariff day, Monday 0. -/
def weekday (day : Nat) : Nat := (day + 5) % 7

/-- R28: the minute of day of a zone time. -/
def minuteOfDay (z : Nat) : Nat := z % daySeconds / 60

/-- The tariff day of the present zone time. -/
def State.today (s : State) : Nat := tariffDay s.now

/-- R168: the station has taken START since its last start. -/
def State.started (s : State) : Bool := s.link.running.isSome

/-- The own station number, 0 in LOCAL mode (R80) and before START. -/
def State.own (s : State) : Nat := (s.link.running.map Running.number).getD 0

/-- R24: started and not in LOCAL mode. -/
def State.onChannel (s : State) : Bool := s.link.running.any fun r => decide (r.number ≠ 0)

/-- R22: a started station configured with the sink role. -/
def State.isSink (s : State) : Bool := s.link.running.any fun r => r.config.sink

/-- R162: READY is asserted while the inbound mailbox is empty and no start is in progress; without main power no line is
driven. -/
def State.ready (s : State) : Bool := s.supply.power && !s.supply.resetHeld && s.link.inbound.isNone

/-- R162: ATTN is asserted while the outbound mailbox is not empty; it is low while a start is in progress (R170). -/
def State.attn (s : State) : Bool := s.supply.power && !s.supply.resetHeld && s.link.outbound.isSome

/-! ### Serial comparison (00_scope.md, Sequence Numbers and Epochs) -/

/-- Sequence `a` is newer than `b`. -/
def seqNewer (a b : Nat) : Bool :=
  let d := (a + wordSpan - b % wordSpan) % wordSpan
  decide (1 ≤ d ∧ d ≤ 32767)

/-- How far sequence `b` lies behind `a`, modulo 65536. -/
def seqBehind (a b : Nat) : Nat := (a + wordSpan - b % wordSpan) % wordSpan

/-- Epoch `a` is newer than `b` (R31). -/
def epochNewer (a b : Nat) : Bool :=
  let d := (a + byteSpan - b % byteSpan) % byteSpan
  decide (1 ≤ d ∧ d ≤ 127)

/-- The sum of two accumulators; beyond 32 bits it is a free value (log 17). -/
def addLong (x y : Nat) : Nat := if x + y < longSpan then x + y else Config.sumBeyond x y

/-! ### Fault kinds and the service state -/

/-- R173: a fault kind's code, its place in the table of kinds. -/
def faultCode : FaultKind → Nat
  | .printer => 0 | .paperLow => 1 | .paperOut => 2 | .coinPath => 3 | .cardReader => 4 | .display => 5
  | .keypad => 6 | .powerLow => 7 | .hostSilent => 8 | .timeUnset => 9 | .noTariff => 10 | .boxFull => 11
  | .boxNearFull => 12 | .forcedDoor => 13 | .doorOpenLong => 14 | .clockDisagree => 15 | .duplicateStation => 16
  | .tariffBehind => 17 | .retainedLost => 18 | .stayConflict => 19 | .stayTableFull => 20 | .permitBlocked => 21

/-- The 22 kinds in the order of their codes. -/
def allFaultKinds : List FaultKind :=
  [.printer, .paperLow, .paperOut, .coinPath, .cardReader, .display, .keypad, .powerLow, .hostSilent, .timeUnset,
   .noTariff, .boxFull, .boxNearFull, .forcedDoor, .doorOpenLong, .clockDisagree, .duplicateStation, .tariffBehind,
   .retainedLost, .stayConflict, .stayTableFull, .permitBlocked]

/-- R146: the fixed severity of a kind. -/
def severityOf : FaultKind → Severity
  | .printer | .paperOut | .display | .keypad | .hostSilent | .timeUnset | .noTariff => .service
  | .coinPath | .boxFull => .degradedCash
  | .cardReader => .degradedCard
  | .stayConflict | .stayTableFull | .permitBlocked => .info
  | .paperLow | .powerLow | .boxNearFull | .forcedDoor | .doorOpenLong | .clockDisagree | .duplicateStation
  | .tariffBehind | .retainedLost => .warning

/-- R146: an event kind, of severity INFO. -/
def isEventKind (k : FaultKind) : Bool := decide (severityOf k = .info)

/-- R150: the host kind of a code, the first eight of the table. -/
def hostKind (code : Nat) : Option FaultKind := if code < 8 then allFaultKinds[code]? else none

/-- The fault table's entry of a kind. -/
def State.faultEntry (s : State) (k : FaultKind) : FaultEntry :=
  s.faults.table.getD (faultCode k) FaultEntry.initial

/-- An entry's active flag. -/
def State.faultActive (s : State) (k : FaultKind) : Bool := (s.faultEntry k).active

/-- R151: cash is barred while a DEGRADED-CASH entry is active. -/
def State.cashBarred (s : State) : Bool := s.faultActive .coinPath || s.faultActive .boxFull

/-- R151: card is barred while a DEGRADED-CARD entry is active. -/
def State.cardBarred (s : State) : Bool := s.faultActive .cardReader

/-- R151: an entry of severity SERVICE is active. -/
def State.serviceFault (s : State) : Bool :=
  allFaultKinds.any fun k => decide (severityOf k = .service) && s.faultActive k

/-- R130: the compartment is open while the door is OPEN or the box ABSENT. -/
def State.compartmentOpen (s : State) : Bool := s.ret.door.doorOpen || s.ret.door.boxAbsent

/-- R151: the service state that the fault table and the compartment condition give. -/
def State.derivedService (s : State) : ServiceState :=
  if s.compartmentOpen then .hold
  else if s.serviceFault || (s.cashBarred && s.cardBarred) then .outOfService
  else if s.cashBarred || s.cardBarred then .degraded
  else .inService

/-! ### Frames handed for transmission (R2) -/

/-- R2, R146, R155: the class of a FAULT frame, by its transition and its kind's fixed severity. -/
def faultClass (r : FaultReport) : FrameClass :=
  if r.transition = .refresh then .bulk
  else if severityOf r.kind = .service ∨ r.kind = .forcedDoor then .urgent
  else .record

/-- R2: the class of a frame body. -/
def QueuedBody.cls : QueuedBody → FrameClass
  | .status => .record
  | .stay _ again => if again then .bulk else .record
  | .claimOpen _ | .claimFirm _ | .claimRelease _ => .claim
  | .objectCount _ | .objectHeld _ | .objectConcurrent _ => .urgent
  | .roundOpen _ | .roundEntry _ | .roundClose _ => .claim
  | .fault _ r => faultClass r

/-- R2: the relay-allowed flag of a frame body. -/
def QueuedBody.relay : QueuedBody → Bool
  | .status => false
  | .stay _ again => !again
  | _ => true

/-- R4: the contention band of a class. -/
def classBand : FrameClass → Nat
  | .urgent => 0 | .claim => 1 | .record => 2 | .bulk => 3

/-- An own STATUS frame. -/
def TxEntry.isOwnStatus (e : TxEntry) : Bool := !e.copy && decide (e.body = .status)

/-- An own re-announcement STAY frame (R93). -/
def TxEntry.isOwnBulkStay (e : TxEntry) : Bool :=
  !e.copy && match e.body with | .stay _ again => again | _ => false

/-- An own ROUND ENTRY frame (R145). -/
def TxEntry.isOwnRoundEntry (e : TxEntry) : Bool :=
  !e.copy && match e.body with | .roundEntry _ => true | _ => false

/-! ### Stay records (R80, R82) -/

/-- R80: the retire time. -/
def retireTime (r : StayRecord) : Nat := r.expiry + r.noReturn * 60 + 600

/-- R80: the expiry lies after `now`. -/
def liveAt (r : StayRecord) (now : Nat) : Bool := decide (now < r.expiry)

/-- R80: expired, and before expiry + no-return. -/
def inNoReturnAt (r : StayRecord) (now : Nat) : Bool :=
  decide (r.expiry ≤ now ∧ now < r.expiry + r.noReturn * 60)

/-- R82: the table-order key. -/
def tableKey (r : StayRecord) : TableKey :=
  { retire := retireTime r, origin := r.id.origin, number := r.id.number, start := r.id.start }

/-- R82: table order, strictly. -/
def TableKey.before (x y : TableKey) : Bool :=
  decide (x.retire < y.retire ∨ (x.retire = y.retire ∧ (x.origin < y.origin ∨ (x.origin = y.origin ∧
    (x.number < y.number ∨ (x.number = y.number ∧ x.start < y.start))))))

/-- R82: this station made the record's latest version. -/
def ownRecord (r : StayRecord) (own : Nat) : Bool :=
  if r.extensions = 0 then decide (r.id.origin = own) else decide (r.lastBy = some own)

/-- The record of an identity. -/
def StayTable.find (t : StayTable) (id : Identity) : Option StayEntry :=
  t.entries.find? fun e => decide (e.record.id = id)

/-! ### Claims (R109) -/

/-- R109: an own claim in flight is the one PENDING or WAITING. -/
def Claim.inFlight (c : Claim) : Bool := decide (c.state = .pending ∨ c.state = .waiting)

/-- R109: precedence by open time, then by origin station. -/
def claimPrecedes (x y : ClaimRef) : Bool :=
  decide (x.openTime < y.openTime ∨ (x.openTime = y.openTime ∧ x.id.origin < y.id.origin))

/-- A claim's id and open time. -/
def Claim.ref (c : Claim) : ClaimRef := { id := c.id, openTime := c.openTime }

/-- A claim of the book and day. -/
def Claim.of (c : Claim) (serial day : Nat) : Bool := decide (c.serial = serial ∧ c.day = day)

/-- The claim in flight with what it carries beyond its list fields. -/
def PermitBlock.current (p : PermitBlock) : Option (Claim × Flight) :=
  match p.claims.find? Claim.inFlight, p.flight with
  | some c, some f => some (c, f)
  | _, _ => none

/-- The FIRM claim of a book and day that holds a vehicle. -/
def PermitBlock.holder (p : PermitBlock) (serial day key : Nat) : Option Claim :=
  p.claims.find? fun c => c.of serial day && decide (c.key = key ∧ c.state = .firm)

/-- One FIRM claim for each distinct vehicle of a book and day, in insertion order. -/
def firmByVehicle (serial day : Nat) (claims : List Claim) : List Claim :=
  claims.foldl (fun acc c =>
    if c.of serial day && decide (c.state = .firm) && !acc.any (fun d => decide (d.key = c.key)) then acc ++ [c]
    else acc) []

/-- R109: the distinct vehicles of a book on a day. -/
def PermitBlock.vehicles (p : PermitBlock) (serial day : Nat) : Nat := (firmByVehicle serial day p.claims).length

/-- The distinct vehicles of a book on a day with a vehicle added. -/
def PermitBlock.vehiclesWith (p : PermitBlock) (serial day key : Nat) : Nat :=
  if (p.holder serial day key).isSome then p.vehicles serial day else p.vehicles serial day + 1

/-! ### Cash and rounds -/

/-- R129: the fill band of an item total against a capacity. -/
def bandOf (items capacity : Nat) : FillBand :=
  if items = capacity then .full
  else if 5 * items < 4 * capacity then .normal
  else .nearFull

/-- R129: the condition a band holds. -/
def bandFault : FillBand → Option FaultKind
  | .normal => none
  | .nearFull => some .boxNearFull
  | .full => some .boxFull

/-- R140: precedence of round ids. -/
def roundPrecedes (x y : RoundId) : Bool :=
  decide (x.time < y.time ∨ (x.time = y.time ∧ x.station < y.station))

/-- R140: a round expires 43,200 seconds after its opening time. -/
def roundExpired (id : RoundId) (now : Nat) : Bool := decide (id.time + 43200 ≤ now)

/-- The id of the current round while it is OPEN. -/
def State.openRound (s : State) : Option RoundId := (s.ret.round.filter Round.isOpen).map Round.id

/-- R127: the tendered total. -/
def tenderTotal (denominations counts : List Nat) : Nat := (List.zipWith (· * ·) denominations counts).sum

/-! ### Neighbours -/

/-- The neighbour entry of a station number. -/
def State.neighbour (s : State) (n : Nat) : Neighbour := s.chan.neighbours.getD (n - 1) Neighbour.initial

/-- R34: the count of entries both FRESH and disputed. -/
def State.disputedFresh (s : State) : Nat :=
  s.chan.neighbours.countP fun e => e.disputed && decide (e.state = .fresh)

/-- R22: the sink distance that the neighbour table gives a station without the sink role. -/
def neighbourDistance (ns : List Neighbour) : Nat :=
  ns.foldl (fun d e =>
    if e.direct && decide (e.state = .fresh) then
      match e.reported with
      | some r => min d (r.distance + 1)
      | none => d
    else d) 7

/-- R54: the newest version of the active tariff id that a FRESH neighbour reports, where newer than the active version. -/
def State.newestReported (s : State) : Option Nat :=
  match s.ret.active with
  | none => none
  | some t =>
    s.chan.neighbours.foldl (fun acc e =>
      match e.state, e.reported with
      | .fresh, some r =>
        match r.tariff with
        | some v =>
          if v.id = t.name.id ∧ t.name.version < v.version ∧ acc.getD 0 < v.version then some v.version else acc
        | none => acc
      | _, _ => acc) none

/-! ### Notices -/

/-- The kind of a notice. -/
def NoticeBody.kind : NoticeBody → NoticeKind
  | .claimResult .. => .claimResult
  | .hostQuiet .. => .hostQuiet
  | .serviceChanged .. => .serviceChanged
  | .tariffSwitched .. => .tariffSwitched
  | .roundChanged .. => .roundChanged
  | .timeStepped .. => .timeStepped
  | .boxBand .. => .boxBand
  | .blockHit .. => .blockHit
  | .faultInbox .. => .faultInbox
  | .door .. => .door

/-- R173: a notice kind's code. -/
def noticeCode : NoticeKind → Nat
  | .claimResult => 0 | .hostQuiet => 1 | .serviceChanged => 2 | .tariffSwitched => 3 | .roundChanged => 4
  | .timeStepped => 5 | .boxBand => 6 | .blockHit => 7 | .faultInbox => 8 | .door => 9

/-- R166: a kind's level; LOW before START. -/
def MachineLink.level (l : MachineLink) (k : NoticeKind) : NoticeLevel :=
  match l.running with
  | none => .low
  | some r => r.config.levels.getD (noticeCode k) .low

/-- R163: a request's code, its place in the table of requests. -/
def requestCode : Request → Nat
  | .start _ => 1 | .restart => 2 | .queryStatus => 3 | .setTime _ => 4 | .tariffLoad .. => 5 | .tariffCommit => 6
  | .tariffDiscard => 7 | .quote _ => 8 | .sell _ => 9 | .lookup _ => 10 | .permitCheck .. => 11
  | .claimVisitorDay .. => 12 | .blockListLoad _ => 13 | .roundOpen .. => 14 | .roundClose => 15 | .roundRead => 16
  | .snapshot => 17 | .snapshotRead => 18 | .faultRaise .. => 19 | .faultClear _ => 20 | .faultRead _ => 21
  | .neighboursRead => 22

/-- The request code a frame carries. -/
def frameCode : FrameContent → Nat
  | .unknown c => c
  | .malformed c => c
  | .request r => requestCode r

end Sys2Proof.Machine
end

