-- ==== Sys2Proof/Machine/Octets.lean ====
section
/-! DEFINITION. Bytes: values sent most significant first (R173), and the 16-bit check over them (R174). -/

namespace Sys2Proof.Machine

/-! ### Values in bytes (R173) -/

/-- R173: a value in k bytes, most significant first. -/
def toBytes : Nat → Nat → List Byte
  | 0, _ => []
  | k + 1, n => BitVec.ofNat 8 (n / 256 ^ k) :: toBytes k n

/-- R173: the value of bytes sent most significant first. -/
def bigEndian (bs : List Byte) : Nat := bs.foldl (fun acc b => acc * 256 + b.toNat) 0

/-- The value of the k bytes at an offset. -/
def field (bs : List Byte) (offset k : Nat) : Nat := bigEndian ((bs.drop offset).take k)

/-- A flag as a bit of weight w. -/
def bitOf (w : Nat) (b : Bool) : Nat := if b then w else 0

/-- The bit of weight w of a byte's value. -/
def hasBit (n w : Nat) : Bool := decide (n / w % 2 = 1)

/-! ### The check (R174) -/

/-- R174: one bit through the check's register. -/
def checkBit (r : BitVec 16) (b : Bool) : BitVec 16 :=
  if r.msb != b then (r <<< 1) ^^^ 0x1021#16 else r <<< 1

/-- R174: one byte through the check's register, most significant bit first. -/
def checkByte (r : BitVec 16) (b : Byte) : BitVec 16 :=
  [7, 6, 5, 4, 3, 2, 1, 0].foldl (fun acc i => checkBit acc (b.getLsbD i)) r

/-- R174: the check over some bytes. -/
def checkOf (bs : List Byte) : BitVec 16 := bs.foldl checkByte 0xFFFF#16

/-- R174: the bytes with their check, high byte first. -/
def withCheck (bs : List Byte) : List Byte := bs ++ toBytes 2 (checkOf bs).toNat

/-- A frame's bytes before its check, its last two bytes. -/
def beforeCheck (bs : List Byte) : List Byte := bs.take (bs.length - 2)

/-- R174: the receiver computes the check over the bytes before it and compares; fewer than two bytes hold no check. -/
def checkRight (bs : List Byte) : Bool :=
  decide (2 ≤ bs.length ∧ bigEndian (bs.drop (bs.length - 2)) = (checkOf (beforeCheck bs)).toNat)

end Sys2Proof.Machine

/-- R174: the check of a zone frame heard agrees, computed over the bytes that came. -/
def Sys2Proof.RxHeader.checkAgrees (h : Sys2Proof.RxHeader) : Bool := Sys2Proof.Machine.checkRight h.octets
end

