-- ==== Sys2Proof/Machine/LinkFrames.lean ====
section
/-! DEFINITION. Request frames as the host writes them (10.4, 10.5): the check and the length judged over the bytes written,
and what the frame holds. -/

namespace Sys2Proof.Machine

/-- 10.5: the identity of 8 bytes. -/
def readIdentity (bs : List Byte) : Identity :=
  { origin := field bs 0 1, number := field bs 1 3, start := field bs 4 4 }

/-- 10.5: the permit record of 16 bytes; the allowance is zero when absent. -/
def readPermit (bs : List Byte) : PermitRecord :=
  { serial := field bs 0 4, classCode := field bs 4 1, issuingZone := field bs 5 2, validFrom := field bs 7 2
    validTo := field bs 9 2, boundKey := field bs 11 4
    allowance := if field bs 15 1 = 0 then none else some (field bs 15 1) }

/-- 10.5: the direction and the amount or duration. -/
def askedOf (flags value : Nat) : Asked := if hasBit flags 128 then .duration value else .amount value

/-- 10.5: the body of QUOTE; none where its length is not 16. The bytes of a field whose presence bit is clear are not examined,
a class byte with a code that no table assigns among them, which is the model's choice (log 62). -/
def readQuote (b : List Byte) : Option QuoteRequest :=
  if b.length ≠ 16 then none
  else
    let flags := field b 0 1
    some { asked := askedOf flags (field b 1 2)
           start := if hasBit flags 32 then some (field b 4 4) else none
           treatment := if hasBit flags 16 then some (field b 3 1) else none
           extend := if hasBit flags 64 then some (readIdentity (b.drop 8)) else none }

/-- 10.5: the body of SELL; none where its length is not what its counts give. Item counts behind a tender that reads CARD are
dropped (log 59), and the bytes of a field whose presence bit is clear are not examined, an unassigned permit class among them
(log 62): the model's choices. -/
def readSell (b : List Byte) : Option SellRequest :=
  if b.length < 32 ∨ b.length ≠ 32 + field b 31 1 then none
  else
    let flags := field b 0 1
    some { key := field b 1 4, asked := askedOf flags (field b 5 2)
           extend := if hasBit flags 64 then some (readIdentity (b.drop 7)) else none
           permit := if hasBit flags 8 then some (readPermit (b.drop 15)) else none
           tender := if hasBit flags 4 then .cash ((b.drop 32).map BitVec.toNat) else .card }

/-- A request that carries no field: its body is empty or malformed. -/
def bare (code : Nat) (b : List Byte) (r : Request) : FrameContent := if b.isEmpty then .request r else .malformed code

/-- A body read, or malformed. -/
def orMalformed (code : Nat) (r : Option Request) : FrameContent :=
  match r with | some q => .request q | none => .malformed code

/-- A body of one 32-bit field, a zone time or a vehicle key (R173), or malformed. -/
def oneLong (code : Nat) (b : List Byte) (r : Nat → Request) : FrameContent :=
  if b.length = 4 then .request (r (bigEndian b)) else .malformed code

/-- 10.4, 10.5, R173: what a request frame holds, for an unknown code and for the requests whose bodies the spec lays out: the
bare ones, SET TIME's time, LOOKUP's key, QUOTE and SELL. None for the others, whose bodies it does not lay out (log 1). -/
def readContent (code : Nat) (b : List Byte) : Option FrameContent :=
  match code with
  | 2 => some (bare 2 b .restart)
  | 3 => some (bare 3 b .queryStatus)
  | 4 => some (oneLong 4 b .setTime)
  | 6 => some (bare 6 b .tariffCommit)
  | 7 => some (bare 7 b .tariffDiscard)
  | 8 => some (orMalformed 8 ((readQuote b).map .quote))
  | 9 => some (orMalformed 9 ((readSell b).map .sell))
  | 10 => some (oneLong 10 b .lookup)
  | 15 => some (bare 15 b .roundClose)
  | 16 => some (bare 16 b .roundRead)
  | 17 => some (bare 17 b .snapshot)
  | 18 => some (bare 18 b .snapshotRead)
  | 22 => some (bare 22 b .neighboursRead)
  | n => if 1 ≤ n ∧ n ≤ 22 then none else some (.unknown n)

/-- What a frame of a request code holds: as its body's bytes spell it; where chapter 10 does not lay them out, the request
written with them, if it is one of that code (log 1). -/
def contentOf (code : Nat) (b : List Byte) (spelled : Option Request) : FrameContent :=
  match readContent code b with
  | some c => c
  | none => orMalformed code (spelled.filter fun r => decide (requestCode r = code))

/-- R163, R174: a request frame as the machine link judges it: its length field against the bytes written, its check computed
over every byte before it, and what it holds. Bytes too few for a code have the code 0 (log 46). -/
def heldFrame (f : WrittenFrame) : LinkFrame :=
  let before := beforeCheck f.octets
  { lengthAgrees := decide (3 ≤ before.length ∧ before.length - 3 = field before 1 2)
    checkAgrees := checkRight f.octets
    content := contentOf (field before 0 1) (before.drop 3) f.spelled }

/-- 10.4: a request frame of a code around its body's bytes, with its check. -/
def requestBytes (code : Nat) (body : List Byte) : List Byte :=
  withCheck (List.flatten [toBytes 1 code, toBytes 2 body.length, body])

end Sys2Proof.Machine
end

