-- ==== Sys2Proof/Machine/Operands.lean ====
section
/-! DEFINITION. The forms of the commands' operands: the ranges a request's fields must lie in, the configuration START
carries, and the acceptance of a zone frame's header. -/

namespace Sys2Proof.Machine

/-! ### Permits and treatments -/

/-- 10.3: the class of a class code. -/
def permitClassOf (code : Nat) : Option PermitClass :=
  match code with
  | 0 => some .resident | 1 => some .visitorBook | 2 => some .business | 3 => some .trade | _ => none

/-- 10.3: the code of a permit class. -/
def permitClassCode : PermitClass → Nat
  | .resident => 0 | .visitorBook => 1 | .business => 2 | .trade => 3

/-- 10.5: the treatment class of a code. -/
def treatmentClassOf (code : Nat) : Option TreatmentClass :=
  match code with
  | 0 => some .residentOwnZone | 1 => some .residentOtherZone | 2 => some .business | 3 => some .trade | _ => none

/-- The treatment a table gives a class. -/
def Treatments.of (t : Treatments) : TreatmentClass → Treatment
  | .residentOwnZone => t.residentOwnZone
  | .residentOtherZone => t.residentOtherZone
  | .business => t.business
  | .trade => t.trade

/-- R103: the allowance agrees with the class. -/
def allowanceOk (cls : PermitClass) (allowance : Option Nat) : Bool :=
  match cls, allowance with
  | .visitorBook, some a => decide (1 ≤ a ∧ a ≤ 4)
  | .visitorBook, none => false
  | _, some _ => false
  | _, none => true

/-- R103: the class of a permit record that is in form; none for a record out of form. -/
def permitForm (p : PermitRecord) : Option PermitClass :=
  match permitClassOf p.classCode with
  | none => none
  | some cls =>
    if 1 ≤ p.issuingZone ∧ p.issuingZone ≤ 4095 ∧ p.validFrom ≤ p.validTo ∧ allowanceOk cls p.allowance then some cls
    else none

/-- R106: a class is in the filter. -/
def inFilter (f : ClassSet) : PermitClass → Bool
  | .resident => f.resident
  | .visitorBook => f.visitorBook
  | .business => f.business
  | .trade => f.trade

/-- R106: a range with an empty filter is inactive. -/
def rangeActive (r : BlockRange) : Bool :=
  r.classes.resident || r.classes.visitorBook || r.classes.business || r.classes.trade

/-- R106: an active range matches a serial and class. -/
def rangeMatches (r : BlockRange) (serial : Nat) (cls : PermitClass) : Bool :=
  decide (r.low ≤ serial ∧ serial ≤ r.high) && inFilter r.classes cls

/-! ### Walks and tenders -/

/-- R58: the amount or duration lies in its range. -/
def askedOk : Asked → Bool
  | .amount a => decide (a ≤ 65535)
  | .duration d => decide (1 ≤ d ∧ d ≤ 1440)

/-- R127: the form of a tender against the set in force. -/
def tenderOk (denominations : List Nat) (asked : Asked) : Tender → Bool
  | .card => true
  | .cash counts =>
    decide (counts.length = denominations.length) && counts.all (fun n => decide (n ≤ 255)) &&
      counts.any (fun n => decide (n ≠ 0)) && decide (tenderTotal denominations counts ≤ 65535) &&
      match asked with
      | .amount a => decide (tenderTotal denominations counts = a)
      | .duration _ => true

/-- R83: the form of a SELL: the direction's range, the permit record, the tender. -/
def sellForm (denominations : List Nat) (r : SellRequest) : Bool :=
  askedOk r.asked && (match r.permit with | some p => (permitForm p).isSome | none => true) &&
    tenderOk denominations r.asked r.tender

/-- R77: the form of a QUOTE. -/
def quoteForm (r : QuoteRequest) : Bool :=
  askedOk r.asked && (match r.treatment with | some c => (treatmentClassOf c).isSome | none => true) &&
    !(r.start.isSome && r.extend.isSome)

/-! ### START -/

/-- The nearest value of a range. -/
def clampTo (low high x : Nat) : Nat := max low (min x high)

/-- R167: the liveness period: 0, or clamped to 10 to 120. -/
def clampLiveness (l : Nat) : Nat := if l = 0 then 0 else clampTo 10 120 l

/-- R124: 1 to 8 distinct values, each 1 to 50,000. -/
def denominationsOk (ds : List Nat) : Bool :=
  decide (1 ≤ ds.length ∧ ds.length ≤ 8 ∧ ds.Nodup) && ds.all fun d => decide (1 ≤ d ∧ d ≤ 50000)

/-- What START's fields come to. -/
inductive StartCheck
  | refused (reason : Reason)
  | malformed
  | passes (config : Configuration) (marks : Bool × Bool × Bool × Bool)
deriving DecidableEq, Repr

/-- R167: the fields examined in the order of the table; `items` is the retained item total that raises the capacity
(R125). -/
def checkStart (r : StartRequest) (items : Nat) : StartCheck :=
  if r.zone = 0 ∨ 4095 < r.zone then .refused .badZone
  else match r.mode with
  | none => .refused .badMode
  | some mode =>
    match r.sink with
    | none => .malformed
    | some sink =>
      if !denominationsOk r.denominations then .refused .badDenominations
      else if r.capacity = 0 then .refused .badCapacity
      else if r.levels.length ≠ 10 ∨ r.levels.any Option.isNone then .malformed
      else
        let config : Configuration :=
          { zone := r.zone, mode, hopLimit := min r.hopLimit 3, statusPeriod := clampTo 30 240 r.statusPeriod
            liveness := clampLiveness r.liveness, sink, denominations := r.denominations
            capacity := max (min r.capacity 5000) items, levels := r.levels.filterMap id }
        .passes config
          (decide (config.hopLimit ≠ r.hopLimit), decide (config.statusPeriod ≠ r.statusPeriod),
            decide (config.liveness ≠ r.liveness), decide (config.capacity ≠ r.capacity))

/-- R167: the own station number that a strap reading gives, 0 for LOCAL mode. -/
def strapNumber (straps : Nat) : Nat := if 1 ≤ straps ∧ straps ≤ 30 then straps else 0

/-! ### Zone frames -/

/-- R11: what the acceptance asks of a frame's kind: its class, and its body length. -/
structure FrameForm where
  classOk : Bool
  length : Nat
  countOk : Bool
deriving DecidableEq, Repr

/-- R11: every check but the last: the check, the header fields in their ranges, hop count against origin, body length
against kind, and the zone code. -/
def headerOk (h : RxHeader) (f : FrameForm) (zone : Nat) : Bool :=
  h.checkAgrees && h.codesAssigned && f.classOk && f.countOk &&
    decide (1 ≤ h.zone ∧ h.zone ≤ 4095 ∧ 1 ≤ h.sender ∧ h.sender ≤ 30 ∧ 1 ≤ h.origin ∧ h.origin ≤ 30 ∧ h.hop ≤ 3 ∧
      h.seq < wordSpan ∧ h.epoch < byteSpan ∧ h.time ≤ zoneTimeMax ∧ (h.hop = 0 ↔ h.origin = h.sender) ∧
      h.bodyLength = f.length ∧ h.bodyLength ≤ 193 ∧ h.zone = zone)

/-- R96: a carried record is in form. -/
def carriedOk (r : StayRecord) : Bool :=
  decide (1 ≤ r.id.origin ∧ r.id.origin ≤ 30 ∧ r.id.number ≠ 0 ∧ r.extensions ≤ 15 ∧ r.expiry % 60 = 0) &&
    (decide (r.extensions = 0) || match r.lastBy with | some b => decide (1 ≤ b ∧ b ≤ 30) | none => false) &&
    decide (r.maxStay = 0 ∨ r.minutes ≤ r.maxStay)

end Sys2Proof.Machine
end

