-- ==== Sys2Proof/Machine/Ops.lean ====
section
/-! DEFINITION. The named operations the blocks share: updates of the state, notices, the transmit queue, fault reports, the
fault table and the service state. -/

namespace Sys2Proof.Machine

/-! ### Named updates, one for each field (their lemmas stand in Laws/State.lean) -/

def State.setSupply (s : State) (v : Supply) : State := { s with supply := v }
def State.setRet (s : State) (v : Retained) : State := { s with ret := v }
def State.setChan (s : State) (v : ChannelBlock) : State := { s with chan := v }
def State.setDay (s : State) (v : Nat) : State := { s with day := v }
def State.setStaging (s : State) (v : List Host.Cell) : State := { s with staging := v }
def State.setWalk (s : State) (v : Option Walk) : State := { s with walk := v }
def State.setStay (s : State) (v : StayTable) : State := { s with stay := v }
def State.setPermits (s : State) (v : PermitBlock) : State := { s with permits := v }
def State.setCash (s : State) (v : CashBlock) : State := { s with cash := v }
def State.setFaults (s : State) (v : FaultBlock) : State := { s with faults := v }
def State.setLink (s : State) (v : MachineLink) : State := { s with link := v }

/-- The retained clock replaced. -/
def State.setClock (s : State) (c : Clock) : State := s.setRet { s.ret with clock := c }

/-- The retained box counters replaced. -/
def State.setBox (s : State) (b : BoxCounters) : State := s.setRet { s.ret with box := b }

/-- The retained door record replaced. -/
def State.setDoor (s : State) (d : DoorRecord) : State := s.setRet { s.ret with door := d }

/-- The retained round table replaced. -/
def State.setRound (s : State) (r : Option Round) : State := s.setRet { s.ret with round := r }

/-- The transmit queue replaced. -/
def State.setQueue (s : State) (q : List TxEntry) : State := s.setChan { s.chan with queue := q }

/-- The stay records replaced, the cursor kept. -/
def State.setEntries (s : State) (es : List StayEntry) : State := s.setStay { s.stay with entries := es }

/-- The claim list replaced, what the claim in flight carries kept. -/
def State.setClaims (s : State) (cs : List Claim) : State := s.setPermits { s.permits with claims := cs }

/-- The entry of one fault kind replaced. -/
def State.setFaultEntry (s : State) (k : FaultKind) (e : FaultEntry) : State :=
  s.setFaults { s.faults with table := s.faults.table.set (faultCode k) e }

/-- What a block answers to a request: the result with its reason, and the body (R165). -/
structure Answer where
  result : Result
  body : RespBody
deriving DecidableEq, Repr

/-- A DONE answer. -/
def Answer.done (b : RespBody) : Answer := { result := .done, body := b }

/-- A REFUSED answer with a body. -/
def Answer.refuse (r : Reason) (b : RespBody := .empty) : Answer := { result := .refused r, body := b }

/-- A BAD REQUEST answer. -/
def Answer.bad : Answer := { result := .badRequest, body := .empty }

/-! ### Notices (R166) -/

/-- R166: a notice joins the pending set, or replaces the body of the pending notice of its kind in place. -/
def joinNotices (notices : List Notice) (n : Notice) : List Notice :=
  if notices.any (fun p => decide (p.body.kind = n.body.kind)) then
    notices.map fun p => if p.body.kind = n.body.kind then n else p
  else notices ++ [n]

/-- R166: a block gives a notice; one of a kind at level OFF is discarded. -/
def State.give (s : State) (b : NoticeBody) : State :=
  if s.link.level b.kind = .off then s
  else s.setLink { s.link with notices := joinNotices s.link.notices { body := b, givenAt := s.now } }

/-- R166: the notice taken to fill the outbound mailbox: the HIGH notice that joined earliest, else the earliest LOW one. -/
def MachineLink.nextNotice (l : MachineLink) : Option Notice :=
  match l.notices.find? fun n => decide (l.level n.body.kind = .high) with
  | some n => some n
  | none => l.notices.head?

/-- R166: a notice placed in the outbound mailbox leaves the pending set. -/
def MachineLink.placeNotice (l : MachineLink) : MachineLink :=
  match l.nextNotice with
  | none => l
  | some n => { l with outbound := some (.notice n), notices := l.notices.erase n }

/-- R163: the waiting response is placed: it takes the overrun flag, which is then cleared, and the inbound mailbox is
emptied. -/
def MachineLink.placeResponse (l : MachineLink) : MachineLink :=
  match l.waiting with
  | none => l
  | some r =>
    { l with outbound := some (.response { r with overrun := l.overrun }), overrun := false, waiting := none,
             inbound := none }

/-- R164: the empty outbound mailbox is filled, the waiting response going in first. -/
def MachineLink.refill (l : MachineLink) : MachineLink :=
  if l.outbound.isSome then l else if l.waiting.isSome then l.placeResponse else l.placeNotice

/-- R164: at the end of a step the empty outbound mailbox is filled. When a response and a notice both stand ready, which
is taken first is a free choice (log 4). -/
def MachineLink.settle (l : MachineLink) : MachineLink :=
  if l.outbound.isSome then l
  else if l.waiting.isSome then
    if l.notices.isEmpty then l.placeResponse
    else if Config.noticeFirst l.choices then { l.placeNotice with choices := l.choices + 1 }
    else { l.placeResponse with choices := l.choices + 1 }
  else l.placeNotice

/-- The end of a step at the machine link; while a start is in progress or main power is absent nothing is placed (R170). -/
def State.settle (s : State) : State :=
  s.setLink (if s.supply.power && !s.supply.resetHeld then s.link.settle else s.link)

/-! ### Fault reports deferred (R155) -/

/-- R155, R156: a deferred report gives way to the report, the `made`-th, of the condition's clear after it. -/
def MadeReport.givesWay (d : MadeReport) (made : Nat) (r : FaultReport) : Bool :=
  decide (r.transition = .cleared ∧ d.made < made)

/-- R155, R156: a report whose frame was refused or evicted becomes the entry's deferred report, unless the entry holds one that
does not give way to it (log 20) or a later report of the entry has been admitted. -/
def State.deferAfterRefusal (s : State) (made : Nat) (r : FaultReport) : State :=
  let e := s.faultEntry r.kind
  if e.deferred.any (fun d => !d.givesWay made r) ∨ (∃ l ∈ e.lastAdmitted, made < l) then s
  else s.setFaultEntry r.kind { e with deferred := some { made, report := r } }

/-! ### The transmit queue (R8 to R10, R24) -/

/-- What a block learns when it hands a frame: refused, admitted with its origin sequence, or (LOCAL mode) answered with
admission and completion at once. -/
inductive Handed
  | refused
  | queued (seq : Nat)
  | completed
deriving DecidableEq, Repr

/-- R92, R94, R155: what the eviction of an entry does to the block that handed it. -/
def State.onEvicted (s : State) (e : TxEntry) : State :=
  if e.copy then s
  else match e.body with
  | .stay records false =>
    s.setEntries (s.stay.entries.map fun x =>
      if records.any (fun r => decide (r.id = x.record.id ∧ r.extensions = x.record.extensions)) then
        { x with unannounced := true } else x)
  | .fault made r => s.deferAfterRefusal made r
  | _ => s

/-- R10: the youngest entry of a class not in transmission. -/
def youngest (q : List TxEntry) (c : FrameClass) : Option TxEntry :=
  (q.filter fun e => decide (e.cls = c) && !e.sending).getLast?

/-- R10: the entry that gives way to an own URGENT or CLAIM frame. A queue whose only BULK entry is in transmission and that
holds a waiting RECORD entry fits no row of R10's table; that the RECORD entry then gives way is the model's choice
(log 51). -/
def victim (q : List TxEntry) : Option TxEntry := (youngest q .bulk).orElse fun _ => youngest q .record

/-- R1, R3: an own frame is admitted: the origin sequence counter advances and gives the frame its sequence. -/
def State.admitOwn (s : State) (b : QueuedBody) : State × Handed :=
  let seq := (s.ret.seq + 1) % wordSpan
  let e : TxEntry :=
    { body := b, origin := s.own, seq, hop := 0, relay := b.relay, cls := b.cls, copy := false, sending := false }
  ((s.setRet { s.ret with seq := seq }).setQueue (s.chan.queue ++ [e]), .queued seq)

/-- R9, R10, R24: a block of this station hands a frame. The block whose entry is evicted for it is told before the frame is
admitted, which is the model's choice (log 42). -/
def State.handOwn (s : State) (b : QueuedBody) : State × Handed :=
  match s.link.running with
  | none => (s, .refused)
  | some r =>
    if r.number = 0 then (s, .completed)
    else if s.chan.queue.length < 16 then s.admitOwn b
    else if b.cls = .urgent ∨ b.cls = .claim then
      match victim s.chan.queue with
      | none => (s, .refused)
      | some v => ((s.setQueue (s.chan.queue.erase v)).onEvicted v).admitOwn b
    else (s, .refused)

/-- R9, R10, R16: a relayed copy is admitted, or dropped as a duplicate of an entry or for a full queue. -/
def State.handCopy (s : State) (b : QueuedBody) (origin seq hop : Nat) (relay : Bool) (cls : FrameClass) : State :=
  if s.chan.queue.length < 16 ∧ ¬ s.chan.queue.any (fun e => decide (e.origin = origin ∧ e.seq = seq)) then
    s.setQueue (s.chan.queue ++ [{ body := b, origin, seq, hop, relay, cls, copy := true, sending := false }])
  else s

/-- R17: a STATUS frame is queued, unless an own STATUS waits in the queue and is not in transmission. -/
def State.queueStatus (s : State) : State :=
  if s.onChannel && !s.chan.queue.any (fun e => e.isOwnStatus && !e.sending) then (s.handOwn .status).1 else s

/-! ### Fault reports (R154 to R160) -/

/-- R158: the inbox after a report arrives; the second part tells whether the report entered. A report's severity is the one it
carries, though its kind's be another (log 37). -/
def inboxAfter (inbox : List InboxReport) (r : InboxReport) (ownReport : Bool) : List InboxReport × Bool :=
  if inbox.length < 64 then (inbox ++ [r], true)
  else if ownReport then
    match inbox.find? fun x => decide (x.report.severity = .info) with
    | some x => (inbox.erase x ++ [r], true)
    | none => (inbox, false)
  else (inbox, false)

/-- R158, R160: a report reaches the sink inbox; one that enters an empty inbox gives FAULT INBOX. -/
def State.toInbox (s : State) (r : FaultReport) (seq : Option Nat) (ownReport : Bool) : State × Bool :=
  let (inbox, entered) := inboxAfter s.faults.inbox { report := r, seq, enteredAt := s.now } ownReport
  let s' := s.setFaults { s.faults with inbox := inbox, overflow := s.faults.overflow || !entered }
  (if entered && s.faults.inbox.isEmpty then s'.give (.faultInbox 1 s'.faults.overflow) else s', entered)

/-- R155, R156: a report has left the fault unit; the latest-made of those that left is kept, so that an earlier one that
leaves after it does not take its place. A deferred report of the entry gives way to the report of the clear after it; that it
stands beside a raise or a refresh after it, to be offered when they have left, is the model's choice (log 69). -/
def State.markReported (s : State) (made : Nat) (r : FaultReport) : State :=
  let e := s.faultEntry r.kind
  s.setFaultEntry r.kind { e with
    lastReported := some s.now, lastAdmitted := some (max made (e.lastAdmitted.getD 0))
    deferred := e.deferred.filter fun d => !d.givesWay made r }

/-- R155: a report once made goes to the inbox at a sink, to the channel at a distance below 7, and else is deferred. -/
def State.dealReport (s : State) (made : Nat) (r : FaultReport) : State :=
  let filled := { r with origin := s.own }
  if s.isSink then
    let (s', entered) := s.toInbox filled none true
    if entered then s'.markReported made r else s'
  else if s.chan.distance < 7 then
    match s.handOwn (.fault made filled) with
    | (s', .refused) => s'.deferAfterRefusal made r
    | (s', _) => s'.markReported made r
  else
    s.setFaultEntry r.kind { s.faultEntry r.kind with deferred := some { made, report := r } }

/-- R154: a report is made from the entry as it stands, and dealt with. -/
def State.makeReport (s : State) (k : FaultKind) (t : Transition) : State :=
  let e := s.faultEntry k
  let r : FaultReport :=
    { origin := 0, kind := k, severity := severityOf k, transition := t, eventTime := s.now
      eventEpoch := s.ret.clock.epoch, eventSet := s.ret.clock.set, raisedAt := e.raisedAt.getD 0, detail := e.detail
      occurrences := e.occurrences }
  (s.setFaults { s.faults with made := s.faults.made + 1 }).dealReport s.faults.made r

/-- The deferred reports of the table in the order in which they were made (R156). -/
def insertMade (r : MadeReport) : List MadeReport → List MadeReport
  | [] => [r]
  | x :: xs => if r.made < x.made then r :: x :: xs else x :: insertMade r xs

/-- R156: all deferred reports, earliest made first. -/
def State.deferredReports (s : State) : List MadeReport :=
  s.faults.table.foldl (fun acc e => match e.deferred with | some r => insertMade r acc | none => acc) []

/-- R156: one deferred report offered: placed or admitted it leaves its entry; the second part tells whether the offering
goes on. -/
def State.offerOne (s : State) (d : MadeReport) : State × Bool :=
  let filled := { d.report with origin := s.own }
  let leave (t : State) : State :=
    t.setFaultEntry d.report.kind { t.faultEntry d.report.kind with deferred := none }
  if s.isSink then
    let (s', entered) := s.toInbox filled none true
    (leave (if entered then s'.markReported d.made d.report else s'), true)
  else
    match s.handOwn (.fault d.made filled) with
    | (s', .refused) => (s', false)
    | (s', _) => (leave (s'.markReported d.made d.report), true)

/-- R156: the deferred reports of a list offered in turn, until one is refused. -/
def State.offerAll (s : State) : List MadeReport → State
  | [] => s
  | d :: ds =>
    match s.offerOne d with
    | (s', true) => s'.offerAll ds
    | (s', false) => s'

/-- R156: the deferred reports are offered again. -/
def State.offerDeferred (s : State) : State := s.offerAll s.deferredReports

/-! ### Service state (R151, R152) and the fault table (R148, R149) -/

/-- R152: the service state is derived; a change gives SERVICE CHANGED and a prompt STATUS. -/
def State.derive (s : State) (cause : ServiceCause) : State :=
  let new := s.derivedService
  if new = s.faults.service then s
  else
    ((s.setFaults { s.faults with service := new }).give
      (.serviceChanged s.faults.service new s.cashBarred s.cardBarred cause)).queueStatus

/-- R152: at a start (`loud` false) the derivation waits until the start's raises and events are done. -/
def State.deriveIf (s : State) (loud : Bool) (cause : ServiceCause) : State := if loud then s.derive cause else s

/-- R147: occurrences stay at 255 once reached. -/
def countUp (n : Nat) : Nat := min (n + 1) 255

/-- R148: a raise. Of a detail above 65,535 the entry takes the low 16 bits (R146). -/
def State.raiseIf (s : State) (loud : Bool) (k : FaultKind) (detail : Nat) : State :=
  let e := s.faultEntry k
  let e' := { e with raisedAt := some s.now, occurrences := countUp e.occurrences, detail := detail % wordSpan }
  if isEventKind k then (s.setFaultEntry k e').makeReport k .raised
  else ((s.setFaultEntry k { e' with active := true, refresh := some 600 }).makeReport k .raised).deriveIf loud (.fault k)

/-- R148: a raise outside a start. -/
def State.raise (s : State) (k : FaultKind) (detail : Nat) : State := s.raiseIf true k detail

/-- R149: a clear; of an inactive entry it changes nothing. -/
def State.clearIf (s : State) (loud : Bool) (k : FaultKind) : State :=
  let e := s.faultEntry k
  if e.active then
    ((s.setFaultEntry k { e with active := false, clearedAt := some s.now, refresh := none }).makeReport k .cleared).deriveIf
      loud (.fault k)
  else s

/-- R149: a clear outside a start. -/
def State.clear (s : State) (k : FaultKind) : State := s.clearIf true k

/-! ### Sink distance (R22) and the conditions that count neighbours (R34, R54) -/

/-- R22: the own sink distance. -/
def State.distanceNow (s : State) : Nat :=
  if s.isSink then 0 else if s.onChannel then neighbourDistance s.chan.neighbours else 7

/-- R22, R156: the own sink distance is recomputed; a fall from 7 offers the deferred reports again. -/
def State.recomputeDistance (s : State) : State :=
  let s' := s.setChan { s.chan with distance := s.distanceNow }
  if s.chan.distance = 7 ∧ s.distanceNow < 7 then s'.offerDeferred else s'

/-- R34: CLOCK DISAGREE is raised when the count reaches 3 and cleared when it falls below. -/
def State.reconsiderClocks (s : State) : State :=
  if 3 ≤ s.disputedFresh then
    if s.faultActive .clockDisagree then s else s.raise .clockDisagree s.disputedFresh
  else s.clear .clockDisagree

/-- R54: TARIFF BEHIND is raised, raised again with a newer version, or cleared. Where it stays active without a new report,
through an activation of another tariff id or an entry that turns FRESH with the report it kept, the detail held stands unless
the newest version now counted is above it, which is the model's choice (log 61). -/
def State.reconsiderTariffIf (s : State) (loud : Bool) : State :=
  match s.newestReported with
  | none => s.clearIf loud .tariffBehind
  | some v =>
    if s.faultActive .tariffBehind ∧ v ≤ (s.faultEntry .tariffBehind).detail then s
    else s.raiseIf loud .tariffBehind v

/-- R21, R22, R34, R54: what a change of neighbour entries sets going, in an order that is the model's choice (log 41): the
distance with the deferred reports it frees, CLOCK DISAGREE, TARIFF BEHIND. -/
def State.neighboursChanged (s : State) : State :=
  (s.recomputeDistance.reconsiderClocks).reconsiderTariffIf true

/-- The entry of a station replaced. -/
def State.setNeighbour (s : State) (n : Nat) (e : Neighbour) : State :=
  s.setChan { s.chan with neighbours := s.chan.neighbours.set (n - 1) e }

end Sys2Proof.Machine
end

