-- ==== Sys2Proof/Machine/Cash.lean ====
section
/-! DEFINITION. The cash unit (chapter 7): box counters, fill bands, the door and the box, snapshots and collection
rounds. -/

namespace Sys2Proof.Machine

/-! ### Fill bands and cash (R127 to R129) -/

/-- R129: the band is found; a change clears the condition of the band left, raises that of the band entered and gives BOX
BAND. The band found at START, where none was held, gives the notice only when it is not NORMAL (log 33). That BOX BAND is
given after the clear and the raise, with their SERVICE CHANGED and FAULT INBOX, is the model's choice (log 73). -/
def State.findBand (s : State) : State :=
  match s.cash.capacity with
  | none => s
  | some capacity =>
    let items := s.ret.box.items
    let new := bandOf items capacity
    if s.cash.band = some new then s
    else
      let s1 := s.setCash { s.cash with band := some new }
      let s2 := match s.cash.band.bind bandFault with | some k => s1.clear k | none => s1
      let s3 := match bandFault new with | some k => s2.raise k items | none => s2
      if s.cash.band = none ∧ new = .normal then s3 else s3.give (.boxBand s.cash.band new items capacity)

/-- R127: the box has room for the tendered items. -/
def State.boxRoom (s : State) (counts : List Nat) : Bool := decide (s.ret.box.items + counts.sum ≤ s.cash.capacity.getD 0)

/-- R128: the counters after a cash sale. -/
def BoxCounters.add (b : BoxCounters) (counts : List Nat) (price excess : Nat) : BoxCounters :=
  { b with
    counts := List.zipWith addLong b.counts counts, items := addLong b.items counts.sum
    value := addLong b.value (tenderTotal b.denominations counts), sales := addLong b.sales price
    excess := addLong b.excess excess }

/-- R128: the tender of a committed sale is counted, and the band found again. -/
def State.countCash (s : State) (t : Tender) (price excess : Nat) : State :=
  match t with
  | .card => s
  | .cash counts => (s.setBox (s.ret.box.add counts price excess)).findBand

/-! ### Round entries (R140, R141) -/

/-- R140: an entry put in order of station number, in place of the station's entry held. An entry beyond thirty, which a
station that restarts in LOCAL mode can make under station 0, is added like any other (log 47). -/
def putEntry (e : RoundEntry) : List RoundEntry → List RoundEntry
  | [] => [e]
  | x :: xs =>
    if e.station < x.station then e :: x :: xs
    else if e.station = x.station then e :: xs
    else x :: putEntry e xs

/-- The entry of a station. -/
def Round.entryOf (r : Round) (station : Nat) : Option RoundEntry :=
  r.entries.find? fun e => decide (e.station = station)

/-- R141: an own collection added to the own station's entry. -/
def Round.fileOwn (r : Round) (own : Nat) (c : RoundSum) : Round :=
  let e : RoundEntry := match r.entryOf own with
    | some e => { e with lastAt := c.lastAt, items := addLong e.items c.items, value := addLong e.value c.value }
    | none => { station := own, lastAt := c.lastAt, items := c.items, value := c.value }
  { r with entries := putEntry e r.entries }

/-- Log 22: a collection latched before START is held without a station number. -/
def Round.fileUnplaced (r : Round) (c : RoundSum) : Round :=
  { r with unplaced := some (match r.unplaced with
    | some u => { lastAt := c.lastAt, items := addLong u.items c.items, value := addLong u.value c.value }
    | none => c) }

/-- Log 22: at START the own station number is known and the collections held without one are filed. -/
def Round.place (r : Round) (own : Nat) : Round :=
  match r.unplaced with
  | some u => { r.fileOwn own u with unplaced := none }
  | none => r

/-- ROUND CHANGED (R145). A collection that the round holds without a station number before START is not among the entries it
counts, which is the model's choice (log 22). -/
def State.giveRound (s : State) (cause : RoundCause) : State :=
  match s.ret.round with
  | none => s
  | some r => s.give (.roundChanged cause r.id r.collector r.isOpen r.entries.length)

/-- R134, R143, R145: a ROUND ENTRY frame with the own station's entry of the OPEN round is handed. -/
def State.handEntry (s : State) : State :=
  match s.ret.round with
  | none => s
  | some r =>
    match r.entryOf s.own with
    | some e => if r.isOpen then (s.handOwn (.roundEntry { id := r.id, collector := r.collector, entry := e })).1 else s
    | none => s

/-- R144: an OPEN round that has expired becomes CLOSED. -/
def State.expireRound (s : State) : State :=
  match s.ret.round with
  | none => s
  | some r =>
    if r.isOpen && roundExpired r.id s.now then (s.setRound (some { r with isOpen := false })).giveRound .expired else s

/-! ### The door and the box (R130 to R137) -/

/-- R131: the authorization is consumed. -/
def State.consume (s : State) : State := s.setCash { s.cash with auth := none }

/-- DOOR (R130). Of the notices of one line event it is the last given, which is the model's choice (log 55). -/
def State.giveDoor (s : State) (e : LineEvent) (c : Option Collection) : State := s.give (.door e s.ret.door c)

/-- R132: an opening of the door. The compartment condition is derived before FORCED DOOR is raised (log 13), and DOOR is the
last notice (log 55): the model's choices. -/
def State.openDoor (s : State) (loud : Bool) : State :=
  let d := s.ret.door
  let openings := min (d.openings + 1) 65535
  let opened := { d with doorOpen := true, openedAt := some s.now, openings }
  let door := match s.cash.auth with
    | some a => { opened with latest := some .authorized, authorizedBy := some a.key }
    | none => { opened with latest := some .forced, authorizedBy := none, forcedOutstanding := true }
  let s1 := ((s.setDoor door).setCash { s.cash with doorTimer := some 600 }).deriveIf loud (.compartment .opening)
  let s2 := if s.cash.auth.isNone then s1.raiseIf loud .forcedDoor openings else s1
  s2.giveDoor .opening none

/-- R133: a closing of the door. The compartment condition is derived, with SERVICE CHANGED and the prompt STATUS of R152,
before DOOR OPEN LONG is cleared (log 13), and DOOR is the last notice (log 55): the model's choices. -/
def State.closeDoor (s : State) (loud : Bool) : State :=
  let s1 := ((s.setDoor { s.ret.door with doorOpen := false, closedAt := some s.now }).setCash
    { s.cash with doorTimer := none }).deriveIf loud (.compartment .closing)
  let s2 := s1.clearIf loud .doorOpenLong
  (if s.ret.door.boxAbsent then s2 else s2.consume).giveDoor .closing none

/-- R134: the collection entry that a removal latches. -/
def State.collection (s : State) (cause : CollectionCause) : Collection :=
  { box := s.ret.box, time := s.now, cause, round := s.openRound }

/-- R134, R141: the round after a collection is filed. -/
def State.filed (s : State) (c : Collection) : Option Round :=
  s.ret.round.map fun r =>
    if !r.isOpen then r
    else
      let sum : RoundSum := { lastAt := c.time, items := c.box.items, value := c.box.value }
      if s.started then r.fileOwn s.own sum else r.fileUnplaced sum

/-- R134: a removal of the box. The compartment condition is derived first, then the band found, then the ROUND ENTRY handed
(log 13), and DOOR is the last notice (log 55): the model's choices. -/
def State.removeBox (s : State) (loud : Bool) (cause : CollectionCause) : State :=
  let c := s.collection cause
  let s1 := (s.setRet { s.ret with
      box := BoxCounters.zero (s.cash.waitingSet.getD s.ret.box.denominations)
      lastCollection := some c
      door := { s.ret.door with boxAbsent := true }
      round := s.filed c }).setCash { s.cash with waitingSet := none }
  let s2 := (s1.deriveIf loud (.compartment .removal)).findBand
  (if c.round.isSome then s2.handEntry else s2).giveDoor .removal (some c)

/-- R135: an insertion of the box. DOOR is the last notice, which is the model's choice (log 55). -/
def State.insertBox (s : State) (loud : Bool) : State :=
  let s1 := (s.setDoor { s.ret.door with boxAbsent := false }).deriveIf loud (.compartment .insertion)
  (if s.ret.door.doorOpen then s1 else s1.consume).giveDoor .insertion none

/-- R133: the whole minutes since opened at; a free value where opened at lies ahead (log 18). As a detail they are given by
their low 16 bits (R146). -/
def minutesOpen (now opened : Nat) : Nat :=
  if opened ≤ now then (now - opened) / 60 else Config.minutesBefore now opened

/-- R133: the door timer has run out. -/
def State.doorTimerOver (s : State) : State :=
  if s.cash.doorTimer.isNone then s
  else
    (s.setCash { s.cash with doorTimer := none }).raise .doorOpenLong (minutesOpen s.now (s.ret.door.openedAt.getD s.now))

/-! ### START at the cash unit (R124, R125, R129) -/

/-- R124: the set in force at START. -/
def State.takeDenominations (s : State) (ds : List Nat) : State :=
  if s.ret.box.items = 0 then
    s.setBox { s.ret.box with denominations := ds, counts := ds.map fun _ => 0 }
  else if ds = s.ret.box.denominations then s
  else s.setCash { s.cash with waitingSet := some ds }

/-- R124, R125, R129 and log 22: the cash unit takes its part of the configuration. -/
def State.startCash (s : State) (c : Configuration) : State :=
  let s1 := s.takeDenominations c.denominations
  let s2 := (s1.setCash { s1.cash with capacity := some c.capacity }).setRound (s1.ret.round.map fun r => r.place s.own)
  s2.findBand

/-! ### Snapshots (R138, R139) -/

/-- R138. -/
def reqSnapshot (s : State) : State × Answer :=
  match s.ret.snapshot with
  | some x => (s, .done (.snapshotAt x.time true))
  | none =>
    let x : Snapshot :=
      { box := s.ret.box, time := s.now, doorOpen := s.ret.door.doorOpen, boxAbsent := s.ret.door.boxAbsent
        round := s.openRound }
    (s.setRet { s.ret with snapshot := some x }, .done (.snapshotAt s.now false))

/-- R139. -/
def reqSnapshotRead (s : State) : State × Answer :=
  match s.ret.snapshot with
  | some x => (s.setRet { s.ret with snapshot := none }, .done (.snapshot x))
  | none => (s, .refuse .noSnapshot)

/-! ### Rounds (R141 to R145) -/

/-- R131: the authorization timer's 15 minutes. -/
def authorizationSeconds : Nat := 900

/-- R131, R137: a ROUND OPEN authorizes the station, and answers FORCED DOOR when the compartment is closed. -/
def State.authorize (s : State) (key : Nat) : State :=
  let s' := s.setCash { s.cash with auth := some { key, left := authorizationSeconds } }
  if s.compartmentOpen then s'
  else (s'.setDoor { s.ret.door with forcedOutstanding := false }).clear .forcedDoor

/-- R141: the own station opens a round, or joins the OPEN round it holds. -/
def State.openOrJoin (s : State) (collector : Nat) : State × Answer :=
  match s.ret.round.filter Round.isOpen with
  | some r =>
    (s.giveRound .joined, .done (.roundOpened .joined r.id r.collector authorizationSeconds))
  | none =>
    let id : RoundId := { time := s.now, station := s.own }
    let r : Round := { id, collector := some collector, isOpen := true, entries := [], unplaced := none }
    ((((s.setRound (some r)).handOwn (.roundOpen { id, collector := some collector })).1).giveRound .opened,
      .done (.roundOpened .opened id (some collector) authorizationSeconds))

/-- R141. FORCED DOOR is cleared, with its report and SERVICE CHANGED, before the ROUND OPEN frame is handed and ROUND CHANGED
given, which is the model's choice (log 74). -/
def reqRoundOpen (key collector : Nat) (s : State) : State × Answer :=
  if key = 0 ∨ collector = 0 then (s, .bad) else (s.authorize key).openOrJoin collector

/-- R144. -/
def reqRoundClose (s : State) : State × Answer :=
  match s.ret.round.filter Round.isOpen with
  | some r =>
    ((((s.setRound (some { r with isOpen := false })).handOwn (.roundClose { id := r.id })).1).giveRound .closed,
      .done (.roundClosed r.id))
  | none => (s, .refuse .noRound)

/-- R145. -/
def reqRoundRead (s : State) : State × Answer := (s, .done (.rounds s.ret.round s.ret.lastCollection))

/-- R142: how a round id reaches the station. -/
inductive RoundWord
  | opened (collector : Option Nat)
  | entry (collector : Option Nat) (e : RoundEntry)
  | closed
  | status
deriving DecidableEq, Repr

/-- The collector id a round id comes with. -/
def RoundWord.collector : RoundWord → Option Nat
  | .opened c => c
  | .entry c _ => c
  | .closed | .status => none

/-- The round entries a round id comes with. -/
def RoundWord.entries : RoundWord → List RoundEntry
  | .entry _ e => [e]
  | _ => []

/-- R142: a heard round becomes the current round. -/
def State.adoptRound (s : State) (id : RoundId) (w : RoundWord) : State :=
  (s.setRound (some { id, collector := w.collector, isOpen := true, entries := w.entries, unplaced := none })).giveRound
    .adopted

/-- R142: a carried entry replaces one of its station that is not later. -/
def mergeEntry (es : List RoundEntry) (e : RoundEntry) : List RoundEntry :=
  match es.find? fun x => decide (x.station = e.station) with
  | some x => if x.lastAt ≤ e.lastAt then putEntry e es else es
  | none => putEntry e es

/-- R143: one entry of the losing round folded into the winner's entries. -/
def foldEntry (own : Nat) (es : List RoundEntry) (y : RoundEntry) : List RoundEntry :=
  match es.find? fun x => decide (x.station = y.station) with
  | none => putEntry y es
  | some x =>
    if y.station = own then
      putEntry { station := own, lastAt := max x.lastAt y.lastAt, items := addLong x.items y.items
                 value := addLong x.value y.value } es
    else if x.lastAt < y.lastAt then putEntry y es
    else es

/-- R143: the current round is folded into the heard round that precedes it. -/
def State.foldRound (s : State) (y : Round) (id : RoundId) (w : RoundWord) : State :=
  let x : Round :=
    { id, collector := w.collector, isOpen := true, entries := y.entries.foldl (foldEntry s.own) w.entries
      unplaced := y.unplaced }
  let last := s.ret.lastCollection.map fun c => if c.round = some y.id then { c with round := some id } else c
  ((s.setRet { s.ret with round := some x, lastCollection := last }).handEntry).giveRound .merged

/-- R142: a word of the round the station holds. -/
def State.sameRound (s : State) (r : Round) (w : RoundWord) : State :=
  match w with
  | .opened c => if r.isOpen then s.setRound (some { r with collector := r.collector.or c }) else s
  | .entry c e => s.setRound (some { r with collector := r.collector.or c, entries := mergeEntry r.entries e })
  | .closed => if r.isOpen then (s.setRound (some { r with isOpen := false })).giveRound .closed else s
  | .status => s

/-- R142: a round id heard, acted on against the current round. -/
def State.onRound (s : State) (id : RoundId) (w : RoundWord) : State :=
  if roundExpired id s.now then s
  else match s.ret.round with
  | none => if w = .closed then s else s.adoptRound id w
  | some r =>
    if r.id = id then s.sameRound r w
    else if w = .closed then s
    else if r.isOpen then (if roundPrecedes id r.id then s.foldRound r id w else s)
    else if r.id.time < id.time then s.adoptRound id w
    else s

/-- R145: at an expiry of the status timer the own entry of the OPEN round is handed again. -/
def State.reannounceEntry (s : State) : State :=
  if s.chan.queue.any fun e => e.isOwnRoundEntry && !e.sending then s else s.handEntry

end Sys2Proof.Machine
end

