-- ==== Sys2Proof/Machine/Stay.lean ====
section
/-! DEFINITION. The stay table (chapter 5): entering and merging records, the checks of a sale against the table,
announcement, retirement and LOOKUP. -/

namespace Sys2Proof.Machine

/-- R82: the most records the table holds. -/
def stayCapacity : Nat := 384

/-- R82: an entry put in its table-order place. -/
def insertEntry (e : StayEntry) : List StayEntry → List StayEntry
  | [] => [e]
  | x :: xs => if (tableKey e.record).before (tableKey x.record) then e :: x :: xs else x :: insertEntry e xs

/-- R97: the candidate for removal: the heard record earliest in table order, else the own record earliest. -/
def removalCandidate (own : Nat) (es : List StayEntry) : Option StayEntry :=
  (es.find? fun e => !ownRecord e.record own).orElse fun _ => es.head?

/-- R97: the loss of a record is raised when the record is live. -/
def State.raiseLoss (s : State) (r : StayRecord) : State :=
  if liveAt r s.now then s.raise .stayTableFull r.id.origin else s

/-- R88, R95, R97: a record that the table does not hold enters it; a full table removes its candidate or drops a heard
record. STAY TABLE FULL is raised as the record enters, before a commit counts its cash and hands its STAY frame (R92), which
is the model's choice (log 65). -/
def State.enterRecord (s : State) (r : StayRecord) : State :=
  let es := s.stay.entries
  let e : StayEntry := { record := r, unannounced := false }
  if es.length < stayCapacity then s.setEntries (insertEntry e es)
  else match removalCandidate s.own es with
  | none => s
  | some c =>
    if ownRecord r s.own || (!ownRecord c.record s.own && decide (retireTime c.record < retireTime r)) then
      (s.setEntries (insertEntry e (es.erase c))).raiseLoss c.record
    else s.raiseLoss r

/-- R89, R95: a new version of a held record takes its table-order place, without an unannounced mark. -/
def State.replaceRecord (s : State) (r : StayRecord) : State :=
  s.setEntries (insertEntry { record := r, unannounced := false }
    (s.stay.entries.filter fun e => !decide (e.record.id = r.id)))

/-- The unannounced mark of a record set or cleared. -/
def State.setMark (s : State) (id : Identity) (mark : Bool) : State :=
  s.setEntries (s.stay.entries.map fun e => if e.record.id = id then { e with unannounced := mark } else e)

/-! ### Ticket numbers (R81) -/

/-- R81: the number after a ticket number. -/
def nextTicket (n : Nat) : Nat := if 16777215 ≤ n then 1 else n + 1

/-- R81: the first number from n on that forms a free identity; the table's 384 records cannot take 385 numbers. -/
def freeTicket (t : StayTable) (own start : Nat) : Nat → Nat → Nat
  | 0, n => n
  | fuel + 1, n =>
    if (t.find { origin := own, number := n, start }).isSome then freeTicket t own start fuel (nextTicket n) else n

/-- R81: a new record takes its identity and the own ticket counter advances past its number. -/
def State.takeTicket (s : State) (start : Nat) : State × Identity :=
  let n := freeTicket s.stay s.own start (s.stay.entries.length + 1) s.ret.ticket
  (s.setRet { s.ret with ticket := nextTicket n }, { origin := s.own, number := n, start })

/-! ### Announcing (R92 to R94) -/

/-- R92: the record as committed is announced; the mark is set when the frame is refused. -/
def State.announce (s : State) (r : StayRecord) : State :=
  match s.handOwn (.stay [r] false) with
  | (s', .refused) => s'.setMark r.id true
  | (s', _) => s'.setMark r.id false

/-- R94: a re-announcement has been sent: the marks of carried versions still held are cleared. -/
def State.announced (s : State) (records : List StayRecord) : State :=
  s.setEntries (s.stay.entries.map fun x =>
    if records.any (fun r => decide (r.id = x.record.id ∧ r.extensions = x.record.extensions)) then
      { x with unannounced := false } else x)

/-- R93: the entries in rotation, beginning after the cursor's key. -/
def rotation (t : StayTable) : List StayEntry :=
  match t.cursor with
  | none => t.entries
  | some k => t.entries.filter (fun e => k.before (tableKey e.record)) ++
      t.entries.filter (fun e => !k.before (tableKey e.record))

/-- R93: the first pass: marked records in table order, at most 4. -/
def firstPass (t : StayTable) : List StayEntry := (t.entries.filter StayEntry.unannounced).take 4

/-- R93: the second pass: live records in rotation that the first pass did not take. -/
def secondPass (t : StayTable) (now : Nat) : List StayEntry :=
  ((rotation t).filter fun e => liveAt e.record now && !e.unannounced).take (4 - (firstPass t).length)

/-- R93: one re-announcement, at an expiry of the status timer. -/
def State.reannounce (s : State) : State :=
  if s.chan.queue.any fun e => e.isOwnBulkStay && !e.sending then s
  else
    let second := secondPass s.stay s.now
    let records := (firstPass s.stay ++ second).map StayEntry.record
    let s' := match second.getLast? with
      | some e => s.setStay { s.stay with cursor := some (tableKey e.record) }
      | none => s
    if records.isEmpty then s'
    else match s'.handOwn (.stay records true) with
      | (s'', .completed) => s''.announced records
      | (s'', _) => s''

/-! ### Records heard (R95, R96) -/

/-- R96: of two versions of equal extension count, the carried one is kept. -/
def carriedWins (held carried : StayRecord) : Bool :=
  decide (held.expiry < carried.expiry ∨ (held.expiry = carried.expiry ∧ held.paidTotal < carried.paidTotal))

/-- R95, R96: one carried record is merged. -/
def State.mergeRecord (s : State) (r : StayRecord) : State :=
  if !carriedOk r || decide (retireTime r ≤ s.now) then s
  else match s.stay.find r.id with
  | none => s.enterRecord r
  | some e =>
    if e.record.extensions < r.extensions then s.replaceRecord r
    else if r.extensions < e.record.extensions ∨ e.record = r then s
    else (if carriedWins e.record r then s.replaceRecord r else s).raise .stayConflict r.id.origin

/-- R95: the records of a STAY frame are merged in the order carried. -/
def State.mergeRecords (s : State) (rs : List StayRecord) : State := rs.foldl State.mergeRecord s

/-- R98: records whose retire time is reached leave the table. -/
def State.retireDue (s : State) : State :=
  s.setEntries (s.stay.entries.filter fun e => decide (s.now < retireTime e.record))

/-! ### The checks of a sale against the table (R85, R86) -/

/-- Of some records, the one with the latest expiry; of equals, the first. -/
def latestOf (rs : List StayRecord) : Option StayRecord :=
  rs.foldl (fun acc r => match acc with
    | none => some r
    | some b => if b.expiry < r.expiry then some r else some b) none

/-- The table's records of a vehicle key. -/
def StayTable.ofKey (t : StayTable) (key : Nat) : List StayRecord :=
  (t.entries.map StayEntry.record).filter fun r => decide (r.key = key)

/-- R85: the refusal of a new session, if any. -/
def newSessionRefusal (t : StayTable) (key now : Nat) : Option Answer :=
  if key = 0 then none
  else
    let rs := t.ofKey key
    match latestOf (rs.filter fun r => decide (r.kind = .paid) && liveAt r now) with
    | some r => some (.refuse .liveSession (.holder r.id r.expiry))
    | none => match latestOf (rs.filter fun r => decide (r.kind = .visitorDay) && liveAt r now) with
    | some r => some (.refuse .coveredByPermit (.holder r.id r.expiry))
    | none =>
      let back := (rs.filter fun r => inNoReturnAt r now).map fun r => r.expiry + r.noReturn * 60
      if back.isEmpty then none else some (.refuse .noReturn (.earliestReturn (back.foldl max 0)))

/-- R86: the record to be extended, or the refusal. -/
def extensionRecord (t : StayTable) (active : TariffName) (id : Identity) (now : Nat) : Except Reason StayRecord :=
  match t.find id with
  | none => .error .unknownTicket
  | some e =>
    let r := e.record
    if !liveAt r now then .error .expired
    else if r.kind = .visitorDay then .error .notExtendable
    else if r.extensions = 15 then .error .extensionLimit
    else if 0 < r.maxStay ∧ r.minutes = r.maxStay then .error .maxStay
    else if r.tariff.id ≠ active.id then .error .tariffMismatch
    else if active.version < r.tariff.version then .error .tariffBehind
    else .ok r

/-! ### LOOKUP (R100) -/

/-- Records ordered by expiry, latest first, equals in the order given. -/
def insertByExpiry (r : StayRecord) : List StayRecord → List StayRecord
  | [] => [r]
  | x :: xs => if x.expiry < r.expiry then r :: x :: xs else x :: insertByExpiry r xs

/-- R100: a record's state against now. -/
def lookState (r : StayRecord) (now : Nat) : LookState :=
  if liveAt r now then .live r.expiry
  else if inNoReturnAt r now then .inNoReturn (r.expiry + r.noReturn * 60)
  else .clear

/-- R100. -/
def reqLookup (key : Nat) (s : State) : State × Answer :=
  if key = 0 then (s, .bad)
  else
    let rs := (s.stay.ofKey key).foldl (fun acc r => insertByExpiry r acc) []
    (s, .done (.found rs.length ((rs.take 4).map fun r => (lookState r s.now, r)) s.now s.ret.clock.set))

end Sys2Proof.Machine
end

