-- ==== Sys2Proof/Machine/Tariff.lean ====
section
/-! DEFINITION. The tariff store (chapter 3): the staging area, reading and validating an image (10.6), the requests, and
activation. -/

namespace Sys2Proof.Machine

/-! ### The staging area (R45, R46) -/

/-- R45: the size of the staging area. -/
def stagingSize : Nat := 2048

/-- The canonical form of staging: offsets strictly rising and inside the area; an unlisted offset is an unmarked byte. -/
def stagingWf (st : List Host.Cell) : Bool :=
  decide (st.Pairwise fun x y => x.1 < y.1) && st.all fun x => decide (x.1 < stagingSize)

/-- The byte at an offset, absent while its mark is clear. -/
def readStaging (st : List Host.Cell) (offset : Nat) : Option Byte :=
  (st.find? fun x => decide (x.1 = offset)).map Prod.snd

/-- One byte written and marked, the list kept in order. -/
def putByte (offset : Nat) (b : Byte) : List Host.Cell → List Host.Cell
  | [] => [(offset, b)]
  | x :: xs =>
    if offset < x.1 then (offset, b) :: x :: xs
    else if offset = x.1 then (offset, b) :: xs
    else x :: putByte offset b xs

/-- R46: a chunk written at an offset. -/
def writeStaging (st : List Host.Cell) (offset : Nat) : List Byte → List Host.Cell
  | [] => st
  | b :: bs => writeStaging (putByte offset b st) (offset + 1) bs

/-- R46: a chunk is 1 to 64 bytes and lies inside the area. -/
def chunkOk (offset : Nat) (chunk : List Byte) : Bool :=
  decide (1 ≤ chunk.length ∧ chunk.length ≤ 64 ∧ offset + chunk.length ≤ stagingSize)

/-! ### Reading an image (R47, 10.6) -/

/-- The first n bytes of a list and the rest, if there are so many. -/
def takeBytes (n : Nat) (bs : List Byte) : Option (List Byte × List Byte) :=
  if n ≤ bs.length then some (bs.take n, bs.drop n) else none

/-- A band as the image holds it; the kind is its code. -/
structure RawBand where
  start : Nat
  kind : Nat
  ladder : Nat
  maxStay : Nat
  noReturn : Nat
deriving DecidableEq, Repr

/-- An image as read, before the validation checks. -/
structure RawImage where
  name : TariffName
  activation : Nat
  minimum : Nat
  dayCap : Nat
  treatments : List Nat
  weekdays : List Nat
  programmes : List (List RawBand)
  ladders : List (List LadderStep)
  overrides : List OverridePair
deriving DecidableEq, Repr

/-- 10.6: six bytes of a band; max stay and no-return are 11 bits each from the top of three bytes (log 24). -/
def rawBand (bs : List Byte) : RawBand :=
  let limits := bigEndian (bs.drop 3)
  { start := bigEndian (bs.take 2), kind := bigEndian ((bs.drop 2).take 1) / 64
    ladder := bigEndian ((bs.drop 2).take 1) % 8, maxStay := limits / 8192, noReturn := limits / 4 % 2048 }

/-- 10.6: five bytes of a ladder step. -/
def rawStep (bs : List Byte) : LadderStep :=
  { threshold := bigEndian (bs.take 2), unit := bigEndian ((bs.drop 2).take 1), price := bigEndian (bs.drop 3) }

/-- 10.6: three bytes of an override. -/
def rawOverride (bs : List Byte) : OverridePair :=
  { day := bigEndian (bs.take 2), programme := bigEndian (bs.drop 2) }

/-- A number of elements of a fixed size, and the bytes that follow them. -/
def readItems {α : Type} (size : Nat) (make : List Byte → α) : Nat → List Byte → Option (List α × List Byte)
  | 0, bs => some ([], bs)
  | n + 1, bs =>
    match takeBytes size bs with
    | none => none
    | some (item, rest) =>
      match readItems size make n rest with
      | none => none
      | some (items, rest') => some (make item :: items, rest')

/-- A number of lists, each a count byte from 1 to `most` and its elements. -/
def readLists {α : Type} (size most : Nat) (make : List Byte → α) : Nat → List Byte → Option (List (List α) × List Byte)
  | 0, bs => some ([], bs)
  | _ + 1, [] => none
  | n + 1, b :: bs =>
    if b.toNat = 0 ∨ most < b.toNat then none
    else
      match readItems size make b.toNat bs with
      | none => none
      | some (items, rest) =>
        match readLists size most make n rest with
        | none => none
        | some (lists, rest') => some (items :: lists, rest')

/-- The header and what follows it, read by the declared counts; none when a count lies outside its range or the bytes are
not exactly those the counts give. -/
def readImage (header body : List Byte) : Option RawImage :=
  let byte (i : Nat) : Nat := bigEndian ((header.drop i).take 1)
  let field (i n : Nat) : Nat := bigEndian ((header.drop i).take n)
  if byte 10 = 0 ∨ 8 < byte 10 ∨ 8 < byte 11 ∨ 32 < byte 12 then none
  else
    match readLists 6 12 rawBand (byte 10) body with
    | none => none
    | some (programmes, afterProgrammes) =>
      match readLists 5 6 rawStep (byte 11) afterProgrammes with
      | none => none
      | some (ladders, afterLadders) =>
        match readItems 3 rawOverride (byte 12) afterLadders with
        | some (overrides, []) =>
          some { name := { id := field 2 2, version := field 4 2 }, activation := field 6 4, minimum := field 13 2
                 dayCap := field 15 2, treatments := [byte 17, byte 18, byte 19, byte 20]
                 weekdays := ((header.drop 21).take 7).map BitVec.toNat, programmes, ladders, overrides }
        | _ => none

/-- R47: staging read as an image, or the first reason that applies. -/
def readStaged (st : List Host.Cell) : Except Reason RawImage :=
  if st.isEmpty then .error .nothingStaged
  else
    match (List.range 28).mapM (readStaging st) with
    | none => .error .imageIncomplete
    | some header =>
      let declared := bigEndian (header.take 2)
      if stagingSize < declared then .error .imageIncomplete
      else
        match (List.range declared).mapM (readStaging st) with
        | none => .error .imageIncomplete
        | some bytes =>
          if declared < 28 then .error .imageForm
          else match readImage header (bytes.drop 28) with
            | none => .error .imageForm
            | some image => .ok image

/-! ### The validation checks (R48) -/

/-- The first element of a list at which a check gives something, with its index from i. -/
def firstAt {α β : Type} (check : α → Option β) : Nat → List α → Option (Nat × β)
  | _, [] => none
  | i, x :: xs =>
    match check x with
    | some b => some (i, b)
    | none => firstAt check (i + 1) xs

/-- Check 2 within a programme: the index of the first failing band, `previous` being the start before it. -/
def badBand (previous : Option Nat) (i : Nat) : List RawBand → Option Nat
  | [] => none
  | b :: bs =>
    let rises := match previous with | none => decide (b.start = 0) | some q => decide (q < b.start)
    if rises && decide (b.start ≤ 1439 ∧ b.kind ≤ 2 ∧ b.maxStay ≤ 1440 ∧ b.noReturn ≤ 1440) then
      badBand (some b.start) (i + 1) bs
    else some i

/-- Check 3 within a programme. -/
def badLadderRef (ladders : Nat) (bs : List RawBand) : Option Nat :=
  (firstAt (fun b => if b.kind = 0 ∧ ladders ≤ b.ladder then some () else none) 0 bs).map Prod.fst

/-- Check 4 within a ladder. -/
def badThreshold (previous : Option Nat) (i : Nat) : List LadderStep → Option Nat
  | [] => none
  | x :: xs =>
    let rises := match previous with | none => decide (x.threshold = 0) | some q => decide (q < x.threshold)
    if rises && decide (x.threshold ≤ 1439) then badThreshold (some x.threshold) (i + 1) xs else some i

/-- R42: the twelve unit lengths. -/
def unitLengths : List Nat := [1, 2, 3, 4, 5, 6, 10, 12, 15, 20, 30, 60]

/-- Check 5 within a ladder. -/
def badUnit (xs : List LadderStep) : Option Nat :=
  (firstAt (fun x => if x.unit ∈ unitLengths then none else some ()) 0 xs).map Prod.fst

/-- Check 6 within a ladder. -/
def straddles (i : Nat) : List LadderStep → Option Nat
  | x :: y :: xs => if (y.threshold - x.threshold) % x.unit = 0 then straddles (i + 1) (y :: xs) else some i
  | _ => none

/-- Check 7 within a ladder. -/
def badPrice (xs : List LadderStep) : Option Nat :=
  (firstAt (fun x => if 1 ≤ x.price ∧ x.price ≤ 9999 then none else some ()) 0 xs).map Prod.fst

/-- Check 9: the first override that names no programme or shares its day with an earlier one. -/
def badOverride (programmes : Nat) (seen : List Nat) (i : Nat) : List OverridePair → Option Nat
  | [] => none
  | o :: os =>
    if o.programme < programmes ∧ o.day ∉ seen then badOverride programmes (o.day :: seen) (i + 1) os else some i

/-- 10.6: a permit treatment byte. -/
def treatmentOf (code : Nat) : Option Treatment :=
  if code ≤ 100 then some (.discount code) else if code = 254 then some .exempt else if code = 255 then some .fullPrice
  else none

/-- R41, 10.6: a band's kind. -/
def bandKindOf (code : Nat) : BandKind := match code with | 0 => .charged | 1 => .free | _ => .closed

/-- R40: the table of an image that has passed the checks, with its four treatments; its activation time is the image's, not
yet resolved. -/
def tableOf (i : RawImage) (t : Treatments) : TariffTable :=
  { name := i.name
    activation := i.activation
    programmes := i.programmes.map fun p => p.map fun b =>
      { start := b.start, kind := bandKindOf b.kind, ladder := if b.kind = 0 then some b.ladder else none
        maxStay := b.maxStay, noReturn := b.noReturn }
    ladders := i.ladders, weekdays := i.weekdays, overrides := i.overrides, minimum := i.minimum, dayCap := i.dayCap
    treatments := t }

/-- The four treatments of an image, where all are assigned codes. -/
def treatmentsOf (codes : List Nat) : Option Treatments :=
  match codes.map treatmentOf with
  | [some a, some b, some c, some d] => some ⟨a, b, c, d⟩
  | _ => none

/-- R48: the table, or the first check that fails with the position of the failing element. -/
def validate (i : RawImage) (active : Option TariffName) : Except (Reason × ImagePosition) TariffTable :=
  if i.name.id = 0 ∨ i.name.version = 0 then .error (.badIdentity, .whole)
  else match firstAt (badBand none 0) 0 i.programmes with
  | some (p, b) => .error (.badBand, .band p b)
  | none => match firstAt (badLadderRef i.ladders.length) 0 i.programmes with
  | some (p, b) => .error (.badLadderReference, .band p b)
  | none => match firstAt (badThreshold none 0) 0 i.ladders with
  | some (l, k) => .error (.badThreshold, .step l k)
  | none => match firstAt badUnit 0 i.ladders with
  | some (l, k) => .error (.badUnit, .step l k)
  | none => match firstAt (straddles 0) 0 i.ladders with
  | some (l, k) => .error (.unitStraddlesStep, .step l k)
  | none => match firstAt badPrice 0 i.ladders with
  | some (l, k) => .error (.badPrice, .step l k)
  | none =>
    if 1000 < i.minimum ∨ i.dayCap = 0 ∨ 65535 < i.dayCap ∨ i.dayCap < i.minimum then .error (.badLimits, .whole)
    else match badOverride i.programmes.length [] 0 i.overrides with
    | some k => .error (.badOverride, .pair k)
    | none => match treatmentsOf i.treatments with
    | none => .error (.badDiscount, .whole)
    | some t =>
      if i.weekdays.any fun w => decide (i.programmes.length ≤ w) then .error (.badWeekdayMap, .whole)
      else if active.any fun a => decide (a.id = i.name.id ∧ i.name.version ≤ a.version) then
        .error (.versionNotNewer, .whole)
      else .ok (tableOf i t)

/-! ### Selection (R43) -/

/-- R43: the day programme of a tariff day. A pair is selected by its day number alone, for a day that has passed or lies beyond
zone time's range too, which is the model's choice (log 53). -/
def programmeOf (t : TariffTable) (day : Nat) : List TariffBand :=
  let index := match t.overrides.find? fun o => decide (o.day = day) with
    | some o => o.programme
    | none => t.weekdays.getD (weekday day) 0
  t.programmes.getD index []

/-! ### Activation (R51) -/

/-- R51: a table becomes active: TARIFF SWITCHED is given, NO TARIFF cleared and TARIFF BEHIND reconsidered, in this order,
which is the model's choice (log 63). -/
def State.activate (s : State) (loud : Bool) (t : TariffTable) : State :=
  let s' := (s.setRet { s.ret with active := some t, awaiting := none }).give
    (.tariffSwitched (s.ret.active.map TariffTable.name) t.name t.activation s.now)
  (s'.clearIf loud .noTariff).reconsiderTariffIf loud

/-- R51: the pending table is compared with zone time. -/
def State.activateDue (s : State) (loud : Bool) : State :=
  match s.ret.awaiting with
  | none => s
  | some t => if t.activation ≤ s.now then s.activate loud t else s

/-! ### Requests -/

/-- R46. -/
def reqTariffLoad (offset : Nat) (chunk : List Byte) (s : State) : State × Answer :=
  if chunkOk offset chunk then
    let st := writeStaging s.staging offset chunk
    (s.setStaging st, .done (.marked st.length))
  else (s, .bad)

/-- R49: the activation time resolved at a commit. -/
def resolveActivation (given now : Nat) : Nat :=
  if given = 0 then min ((tariffDay now + 1) * daySeconds) zoneTimeMax else given

/-- R49: a table with its activation time resolved at a commit. -/
def TariffTable.resolved (t : TariffTable) (now : Nat) : TariffTable :=
  { t with activation := resolveActivation t.activation now }

/-- R47 to R49. -/
def reqTariffCommit (s : State) : State × Answer :=
  match readStaged s.staging with
  | .error .nothingStaged => (s, .refuse .nothingStaged)
  | .error r => (s.setStaging [], .refuse r)
  | .ok image =>
    match validate image (s.ret.active.map TariffTable.name) with
    | .error (r, p) => (s.setStaging [], .refuse r (.position p))
    | .ok given =>
      let table := given.resolved s.now
      let s' := (s.setStaging []).setRet { s.ret with awaiting := some table }
      if table.activation ≤ s.now then (s'.activate true table, .done (.committed true table.name none))
      else (s', .done (.committed false table.name (some table.activation)))

/-- R50. -/
def reqTariffDiscard (s : State) : State × Answer :=
  ((s.setStaging []).setRet { s.ret with awaiting := none },
    .done (.discarded (!s.staging.isEmpty) (s.ret.awaiting.map TariffTable.name)))

end Sys2Proof.Machine
end

