-- ==== Sys2Proof/Machine/Charge.lean ====
section
/-! DEFINITION. The charge engine (chapter 4): the walk, its stops, the price and the result. -/

namespace Sys2Proof.Machine

/-! ### Bands and ladders (R41, R42, R59) -/

/-- R41: the band a minute of day lies in: the one with the greatest start not exceeding it; and whether it is the last. -/
def bandAt (minute : Nat) : List TariffBand → Option (TariffBand × Bool)
  | [] => none
  | b :: bs => if b.start ≤ minute then (bandAt minute bs).or (some (b, bs.isEmpty)) else none

/-- R59: the band of a minute of zone time under a table, and whether it is its programme's last. -/
def bandOfMinute (t : TariffTable) (m : Nat) : TariffBand × Bool :=
  (bandAt (m % dayMinutes) (programmeOf t (m / dayMinutes))).getD
    ({ start := 0, kind := .closed, ladder := none, maxStay := 0, noReturn := 0 }, true)

/-- R61: the step in force: the last whose threshold does not exceed c. -/
def stepInForce (c : Nat) : List LadderStep → Option LadderStep
  | [] => none
  | x :: xs => if x.threshold ≤ c then (stepInForce c xs).or (some x) else none

/-- R42: the rate of a step, in sixtieths for each charged minute. -/
def stepRate (x : LadderStep) : Nat := x.price * (60 / x.unit)

/-- R61: the rate of a minute of a CHARGED band at c day charged minutes. -/
def minuteRate (t : TariffTable) (b : TariffBand) (c : Nat) : Nat :=
  ((stepInForce c (t.ladders.getD (b.ladder.getD 0) [])).map stepRate).getD 0

/-- R61: the day accrual after a minute of rate r, held at the day cap. -/
def accrue (dayCap a r : Nat) : Nat := if 60 * dayCap ≤ a then a else min (a + r) (60 * dayCap)

/-! ### Price (R66, R67, R74) -/

/-- R66: sixtieths rounded up to whole pence. -/
def roundUp (sixtieths : Nat) : Nat := (sixtieths + 59) / 60

/-- R72: the baseline gross of a walk: the record's gross at expiry day when the walk goes on in that day. -/
def baseline (w : Walk) : Nat :=
  match w.continued with
  | some h => if w.s0 / dayMinutes = h.expiryDay then h.dayGross else 0
  | none => 0

/-- R66, R74: the gross of an accrual: for an extension, less the baseline. R74 has it never negative; where a heard record's
gross at expiry day is above what its accrual costs, the difference is taken to be 0, which is the model's choice (log 64). -/
def grossOf (w : Walk) (sixtieths : Nat) : Nat := roundUp sixtieths - baseline w

/-- R67: the price of a gross: the discount taken off, rounded down, and the minimum beneath. -/
def priceOf (t : TariffTable) (discount gross : Nat) : Nat := max (gross - gross * discount / 100) t.minimum

/-! ### The walk (R57 to R65) -/

/-- R61: the quantities after the charged minute m of band b is taken; a new session's first charged minute fixes its start
band (R63). -/
def takeCharged (w : Walk) (b : TariffBand) (r : WalkRegs) : WalkRegs :=
  let a := accrue w.table.dayCap r.a (minuteRate w.table b r.c)
  { r with
    n := r.n + 1, c := r.c + 1, a, k := r.k + 1
    X := if w.continued.isNone ∧ r.k = 0 then b.maxStay else r.X
    noReturn := if w.continued.isNone ∧ r.k = 0 then b.noReturn else r.noReturn
    last := some { minute := r.m, c := r.c + 1, a } }

/-- R62: the walk moves to the next minute; the first minute of a tariff day takes a midnight. -/
def nextMinute (r : WalkRegs) : WalkRegs :=
  if (r.m + 1) % dayMinutes = 0 then { r with m := r.m + 1, T := r.T + r.a, c := 0, a := 0 } else { r with m := r.m + 1 }

/-- R60, R61: a minute is taken. -/
def takeMinute (w : Walk) (b : TariffBand) (r : WalkRegs) : WalkRegs :=
  nextMinute (if b.kind = .charged then takeCharged w b r else r)

/-- R68, R74: the price the walk would have with the minute added. -/
def priceWith (w : Walk) (b : TariffBand) (r : WalkRegs) : Nat :=
  priceOf w.table w.discount (grossOf w (r.T + accrue w.table.dayCap r.a (minuteRate w.table b r.c)))

/-- R65: the first stop test that holds before a minute, with its clamp reason. -/
def stopAt (w : Walk) (b : TariffBand) (isLast : Bool) (r : WalkRegs) : Option ClampReason :=
  let first := decide (r.m % dayMinutes = b.start)
  if (match w.asked with | .duration d => decide (d ≤ r.n) | .amount _ => false) then some .unclamped
  else if 0 < r.X ∧ r.X ≤ r.n then some .maxStay
  else if first ∧ b.kind = .closed then some .closed
  else if first ∧ b.kind = .free ∧ isLast then some .endOfCharging
  else if w.s0 + 1440 ≤ r.m then some .horizon
  else match w.asked with
  | .amount a => if b.kind = .charged ∧ a < priceWith w b r then some .unclamped else none
  | .duration _ => none

/-- The walk from its quantities to its stop. The HORIZON test bounds it to 1440 minutes, so 1441 tests suffice. -/
def walkFrom (w : Walk) : Nat → WalkRegs → WalkRegs × ClampReason
  | 0, r => (r, .horizon)
  | fuel + 1, r =>
    let (b, isLast) := bandOfMinute w.table r.m
    match stopAt w b isLast r with
    | some reason => (r, reason)
    | none => walkFrom w fuel (takeMinute w b r)

/-- R58, R72: the quantities at a walk's beginning. -/
def beginRegs (s0 : Nat) : Option StayRecord → WalkRegs
  | none => { m := s0, n := 0, c := 0, a := 0, T := 0, X := 0, k := 0, noReturn := 0, last := none }
  | some h =>
    let same := s0 / dayMinutes = h.expiryDay
    { m := s0, n := h.minutes, c := if same then h.dayMinutes else 0, a := if same then h.dayAccrual else 0, T := 0
      X := h.maxStay, k := 0, noReturn := 0, last := none }

/-- R57, R58, R72: a walk begins. -/
def beginWalk (t : TariffTable) (start : Nat) (asked : Asked) (discount : Nat) (h : Option StayRecord)
    (sale : Option SaleTerms) : Walk :=
  let s := match h with | some r => r.expiry | none => start
  { table := t, start := s, s0 := s / 60, asked, discount, continued := h, sale, regs := beginRegs (s / 60) h }

/-! ### The outcome (R64, R68 to R70, R75, R76) -/

/-- A walk's refusal with its clamp reason, or its result. -/
inductive WalkOutcome
  | refused (reason : Reason) (clamp : ClampReason)
  | result (r : WalkResult)
deriving DecidableEq, Repr

/-- R64, R68: the refusals before the walk takes a minute. -/
def startRefusal (w : Walk) : Option Reason :=
  let (b, isLast) := bandOfMinute w.table w.s0
  if b.kind = .closed then some .closed
  else if b.kind = .free ∧ isLast then some .nothingToBuy
  else match w.asked with
  | .amount a => if a < w.table.minimum then some .belowMinimum else none
  | .duration _ => none

/-- R75, R76: the result record of a walk that stopped at r after buying its last minute. -/
def resultOf (w : Walk) (r : WalkRegs) (clamp : ClampReason) (last : LastBought) : WalkResult :=
  let gross := grossOf w (r.T + r.a)
  let price := priceOf w.table w.discount gross
  { asked := w.asked, start := w.start, expiry := (last.minute + 1) * 60, bought := r.k, minutes := r.n, gross
    discount := w.discount, price, excess := match w.asked with | .amount a => a - price | .duration _ => 0
    clamp, tariff := w.table.name, limits := if w.continued.isNone then some (r.X, r.noReturn) else none
    expiryDay := last.minute / dayMinutes, dayMinutes := last.c, dayAccrual := last.a, dayGross := roundUp last.a }

/-- R64 to R70: how a walk ends. A refusal before any minute (R64, R68) carries the clamp reason none, which is the model's
choice (log 44). -/
def walkOutcome (w : Walk) : WalkOutcome :=
  match startRefusal w with
  | some reason => .refused reason .unclamped
  | none =>
    let (r, clamp) := walkFrom w 1441 w.regs
    match r.last with
    | none => match w.asked with
      | .amount _ => .refused .amountTooSmall clamp
      | .duration _ => .refused .nothingToBuy clamp
    | some last => .result (resultOf w r clamp last)

/-- The answer to a request whose walk is refused, with its clamp reason (R69, R70; log 44). -/
def walkRefusal (reason : Reason) (clamp : ClampReason) : Answer := .refuse reason (.clamp clamp)

/-! ### QUOTE (R77) -/

/-- R77: the discount of a treatment class under a table; none for EXEMPT. -/
def quoteDiscount (t : TariffTable) (code : Option Nat) : Option Nat :=
  match code.bind treatmentClassOf with
  | none => some 0
  | some c => match t.treatments.of c with
    | .exempt => none
    | .discount d => some d
    | .fullPrice => some 0

/-- R77: a QUOTE is refused, or its walk begins. -/
def reqQuote (q : QuoteRequest) (s : State) : State × Option Answer :=
  if !quoteForm q then (s, some .bad)
  else if !s.ret.clock.set then (s, some (.refuse .timeUnset))
  else match s.ret.active with
  | none => (s, some (.refuse .noTariff))
  | some t =>
    match q.extend.map fun id => extensionRecord s.stay t.name id s.now with
    | some (.error r) => (s, some (.refuse r))
    | some (.ok h) =>
      match quoteDiscount t q.treatment with
      | none => (s, some (.refuse .exempt))
      | some d => (s.setWalk (some (beginWalk t s.now q.asked d (some h) none)), none)
    | none =>
      match quoteDiscount t q.treatment with
      | none => (s, some (.refuse .exempt))
      | some d => (s.setWalk (some (beginWalk t (q.start.getD s.now) q.asked d none none)), none)

end Sys2Proof.Machine
end

