-- ==== Sys2Proof/Machine/Permits.lean ====
section
/-! DEFINITION. The permit unit (chapter 6): the permit check and the block list, the claim list, the claim in flight, and
what heard claim frames do. -/

namespace Sys2Proof.Machine

/-! ### The block list (R106 to R108) -/

/-- The number of the first range, counting from i, that satisfies a test. -/
def firstRange (test : BlockRange → Bool) (i : Nat) : List BlockRange → Option Nat
  | [] => none
  | r :: rs => if test r then some i else firstRange test (i + 1) rs

/-- R106: the hit of a serial and class: REFUSE if any matching range refuses, and the lowest range with that action. -/
def blockHit (ranges : List BlockRange) (serial : Nat) (cls : PermitClass) : Option (Nat × BlockAction) :=
  match firstRange (fun r => rangeMatches r serial cls && decide (r.action = .refuse)) 0 ranges with
  | some i => some (i, .refuse)
  | none => (firstRange (fun r => rangeMatches r serial cls) 0 ranges).map fun i => (i, .note)

/-- R107: the block list is consulted; a hit raises PERMIT BLOCKED and gives BLOCK HIT. -/
def State.consult (s : State) (serial : Nat) (cls : PermitClass) (use : CheckUse) : State × Option BlockAction :=
  match blockHit s.ret.blockList serial cls with
  | none => (s, none)
  | some (i, action) =>
    ((s.raise .permitBlocked (serial % wordSpan)).give (.blockHit serial cls i action use s.now), some action)

/-- R108: the position of the first range whose low serial lies above its high serial. -/
def badRange (rs : List BlockRange) : Option Nat := firstRange (fun r => decide (r.high < r.low)) 0 rs

/-- R108. The positions beyond the ranges given take serials 0 and action NOTE with their empty filter, which is the model's
choice (log 68). -/
def reqBlockListLoad (rs : List BlockRange) (s : State) : State × Answer :=
  if 16 < rs.length then (s, .bad)
  else match badRange rs with
  | some i => (s, .refuse .badRange (.range i))
  | none =>
    let list := rs ++ List.replicate (16 - rs.length) BlockRange.inactive
    (s.setRet { s.ret with blockList := list }, .done (.ranges (list.countP rangeActive)))

/-! ### PERMIT CHECK (R104, R105) -/

/-- The configured zone code; 0 before START. -/
def State.zoneCode (s : State) : Nat := (s.link.running.map fun r => r.config.zone).getD 0

/-- R105: the treatment class of a class other than VISITOR BOOK. -/
def treatmentClass (cls : PermitClass) (ownZone : Bool) : TreatmentClass :=
  match cls with
  | .resident | .visitorBook => if ownZone then .residentOwnZone else .residentOtherZone
  | .business => .business
  | .trade => .trade

/-- R104, steps 2 to 5, and R105: what a permit of the given class is worth. -/
def State.judgePermit (s : State) (p : PermitRecord) (cls : PermitClass) (key : Nat) : Except Reason PermitWorth :=
  if s.today < p.validFrom then .error .notYetValid
  else if p.validTo < s.today then .error .expired
  else if p.boundKey ≠ 0 ∧ p.boundKey ≠ key then .error .wrongVehicle
  else
    let ownZone := decide (p.issuingZone = s.zoneCode)
    if cls = .visitorBook then
      if ownZone then .ok (.visitor (p.allowance.getD 0)) else .error .wrongZone
    else
      let t := treatmentClass cls ownZone
      .ok (.valid t (s.ret.active.map fun a => a.treatments.of t))

/-- R104: the check of a permit in form, with the block list's effects. -/
def State.checkPermit (s : State) (p : PermitRecord) (cls : PermitClass) (key : Nat) (use : CheckUse) :
    State × Except Reason PermitWorth :=
  match s.consult p.serial cls use with
  | (s', some .refuse) => (s', .error .blocked)
  | (s', _) => (s', s'.judgePermit p cls key)

/-- R104. -/
def reqPermitCheck (p : PermitRecord) (key : Nat) (s : State) : State × Answer :=
  match permitForm p with
  | none => (s, .bad)
  | some cls =>
    match s.checkPermit p cls key .permitCheck with
    | (s', .error r) => (s', .refuse r (.judged s'.today s'.ret.clock.set none))
    | (s', .ok w) => (s', .done (.judged s'.today s'.ret.clock.set (some w)))

/-! ### The claim list (R110, R112) -/

/-- R109: the most claims the list holds. -/
def claimCapacity : Nat := 160

/-- R110: the PROVISIONAL claim earliest in insertion order. -/
def earliestProvisional (cs : List Claim) : Option Claim := cs.find? fun c => decide (c.state = .provisional)

/-- R110: the list has room, if need be by removing a PROVISIONAL claim. -/
def claimRoom (cs : List Claim) : Bool := decide (cs.length < claimCapacity) || (earliestProvisional cs).isSome

/-- R110: a claim enters the list; into a full list without a PROVISIONAL claim it does not. -/
def enterClaim (cs : List Claim) (c : Claim) : List Claim :=
  if cs.length < claimCapacity then cs ++ [c]
  else match earliestProvisional cs with
  | some p => cs.erase p ++ [c]
  | none => cs

/-- The station's OPEN of a claim (R114). -/
def openBody (c : Claim) (allowance attempt : Nat) : ClaimOpenBody :=
  { idSeq := if attempt = 1 then 0 else c.id.seq, serial := c.serial, day := c.day, key := c.key, openTime := c.openTime
    allowance, attempt }

/-- R118: the claim in flight ends without being granted: it leaves the list, a RELEASE is handed when an OPEN of it has
been sent, and CLAIM RESULT is given. -/
def State.endFlight (s : State) (c : Claim) (f : Flight) (o : ClaimOutcome) : State :=
  let s' := s.setPermits { claims := s.permits.claims.filter fun x => !x.inFlight, flight := none }
  let s'' := if f.sent then
      (s'.handOwn (.claimRelease { idSeq := c.id.seq, serial := c.serial, day := c.day, key := c.key })).1
    else s'
  s''.give (.claimResult c.id c.serial c.key c.day f.attempts o)

/-- R112: a heard claim is merged as FIRM. -/
def State.mergeFirm (s : State) (x : Claim) : State :=
  let cs := s.permits.claims
  let same (c : Claim) : Bool := c.of x.serial x.day && decide (c.key = x.key)
  let firm : Claim := { x with state := .firm, ageing := none }
  if x.day < s.today then s
  else if cs.any fun c => decide (c.id = x.id ∧ c.state = .provisional) then
    s.setClaims (cs.map fun c =>
      if c.id = x.id ∧ c.state = .provisional then { c with state := .firm, ageing := none } else c)
  else if cs.any fun c => decide (c.id = x.id ∧ c.state = .firm) then s
  else if cs.any fun c => same c && decide (c.state = .firm) then s
  else if cs.any fun c => same c && decide (c.state = .provisional) then
    s.setClaims (enterClaim (cs.filter fun c => !(same c && decide (c.state = .provisional))) firm)
  else
    match s.permits.current with
    | some (c, f) =>
      if same c then
        let s' := s.endFlight c f (.alreadyHeld x.ref)
        s'.setClaims (enterClaim s'.permits.claims firm)
      else s.setClaims (enterClaim cs firm)
    | none => s.setClaims (enterClaim cs firm)

/-! ### The claim in flight (R114 to R118) -/

/-- R115: how the claim in flight is judged against the list: an outcome that ends it, or none. -/
def flightVerdict (p : PermitBlock) (c : Claim) (f : Flight) : Option ClaimOutcome :=
  match p.holder c.serial c.day c.key with
  | some h => some (.alreadyHeld h.ref)
  | none =>
    if f.allowance < p.vehiclesWith c.serial c.day c.key then
      some (.deniedAllowanceUsed (p.vehicles c.serial c.day))
    else none

/-- The state of the claim in flight replaced. -/
def State.setFlightState (s : State) (st : ClaimState) (f : Flight) : State :=
  s.setPermits { claims := s.permits.claims.map fun c => if c.inFlight then { c with state := st } else c, flight := some f }

/-- R114: the objection window that a PENDING claim's sent OPEN starts. -/
def windowAfterOpen (c : Claim) (f : Flight) : Flight :=
  { f with awaiting := false, sent := true, window := if c.state = .pending then some 3 else f.window }

/-- R114: a further OPEN is handed for the claim in flight; a fourth, or one that is refused, ends it DENIED ZONE BUSY. One that
is refused is not counted in the attempts that CLAIM RESULT gives (log 54), and one called for while the third OPEN awaits
transmission is not made and ends nothing (log 66): the model's choices. -/
def State.reopen (s : State) (c : Claim) (f : Flight) : State :=
  if f.awaiting then s
  else if 3 ≤ f.attempts then s.endFlight c f .deniedZoneBusy
  else
    let f' := { f with attempts := f.attempts + 1, window := none }
    match s.handOwn (.claimOpen (openBody c f.allowance f'.attempts)) with
    | (s', .refused) => s'.endFlight c f .deniedZoneBusy
    | (s', .queued _) => s'.setFlightState c.state { f' with awaiting := true }
    | (s', .completed) => s'.setFlightState c.state (windowAfterOpen c f')

/-- R114: an OPEN with the given claim id has been sent. -/
def State.openSent (s : State) (id : ClaimId) : State :=
  match s.permits.current with
  | some (c, f) => if c.id = id then s.setPermits { s.permits with flight := some (windowAfterOpen c f) } else s
  | none => s

/-- R91: the VISITOR DAY record of a claim. -/
def visitorRecord (c : Claim) (id : Identity) (tariff : TariffName) : StayRecord :=
  { id, key := c.key, kind := .visitorDay, expiry := (c.day + 1) * daySeconds, minutes := 0, expiryDay := c.day
    dayMinutes := 0, dayAccrual := 0, dayGross := 0, grossTotal := 0, paidTotal := 0, tariff, maxStay := 0, noReturn := 0
    extensions := 0, lastBy := none, permit := some { cls := .visitorBook, serial := c.serial } }

/-- R91: the VISITOR DAY record of a granted claim is committed and announced. -/
def State.commitVisitorDay (s : State) (c : Claim) : State × Identity :=
  let (s', id) := s.takeTicket s.now
  let r := visitorRecord c id ((s.ret.active.map TariffTable.name).getD { id := 0, version := 0 })
  ((s'.enterRecord r).announce r, id)

/-- R115: the claim in flight is granted. -/
def State.grant (s : State) (c : Claim) (f : Flight) : State :=
  let s1 := s.setPermits
    { claims := s.permits.claims.map fun x => if x.inFlight then { x with state := .firm } else x, flight := none }
  let s2 := (s1.handOwn (.claimFirm
    { idSeq := c.id.seq, serial := c.serial, day := c.day, key := c.key, openTime := c.openTime })).1
  let (s3, id) := s2.commitVisitorDay c
  s3.give (.claimResult c.id c.serial c.key c.day f.attempts (.granted id))

/-- R115: the objection window has run out. -/
def State.windowOver (s : State) : State :=
  match s.permits.current with
  | none => s
  | some (c, f) =>
    if f.window.isNone then s
    else match flightVerdict s.permits c f with
    | some o => s.endFlight c f o
    | none => s.grant c f

/-- R117: the wait of the claim in flight ends: it is PENDING again and judged, and opened again unless it ends. -/
def State.endWait (s : State) : State :=
  match s.permits.current with
  | none => s
  | some (c, f) =>
    if c.state ≠ .waiting then s
    else
      let c' := { c with state := .pending }
      let f' := { f with waitFor := none, waitTimer := none }
      let s' := s.setFlightState .pending f'
      match flightVerdict s'.permits c' f' with
      | some o => s'.endFlight c' f' o
      | none => s'.reopen c' f'

/-- R117: a claim of the same book and day is told of; when it precedes the claim in flight, that claim waits for it. Of two
claims of which neither precedes the other, the one waited for stays, which is the model's choice (log 67). -/
def State.concurrent (s : State) (x : ClaimRef) : State :=
  match s.permits.current with
  | none => s
  | some (c, f) =>
    if !claimPrecedes x c.ref then s
    else if c.state = .waiting then
      match f.waitFor with
      | some w => s.setPermits { s.permits with flight := some { f with waitFor := some (if claimPrecedes x w then x else w) } }
      | none => s.setPermits { s.permits with flight := some { f with waitFor := some x } }
    else s.setFlightState .waiting { f with window := none, waitFor := some x, waitTimer := some 10 }

/-- R117: a FIRM or RELEASE of the claim waited for ends the wait. -/
def State.waitedFor (s : State) (id : ClaimId) : State :=
  match s.permits.current with
  | some (c, f) => if c.state = .waiting ∧ (f.waitFor.map ClaimRef.id) = some id then s.endWait else s
  | none => s

/-! ### CLAIM VISITOR DAY (R113) -/

/-- R113: checks 3 to 7 of a visitor book with the allowance given, on today. ALLOWANCE USED carries the vehicles that hold
FIRM claims, without the one asked for (log 32). -/
def claimRefusal (p : PermitBlock) (serial today key allowance : Nat) : Option Answer :=
  let same (c : Claim) (st : ClaimState) : Bool := c.of serial today && decide (c.key = key ∧ c.state = st)
  match p.current with
  | some (c, _) => some (.refuse .busy (.claim c.id))
  | none => match p.claims.find? fun c => same c .provisional with
  | some c => some (.refuse .claimInProgress (.claim c.id))
  | none => match p.claims.find? fun c => same c .firm with
  | some c => some (.refuse .alreadyHeld (.claimHolder c.ref))
  | none =>
    if allowance < p.vehiclesWith serial today key then some (.refuse .allowanceUsed (.vehicles (p.vehicles serial today)))
    else if !claimRoom p.claims then some (.refuse .claimListFull)
    else none

/-- R113: a new own claim with its id enters the list PENDING. -/
def State.openClaim (s : State) (serial key allowance : Nat) (id : ClaimId) (sent : Bool) : State × Answer :=
  let c : Claim :=
    { serial, day := s.today, key, id, openTime := s.now, state := .pending, ageing := none }
  let f : Flight :=
    { cls := .visitorBook, allowance, attempts := 1, awaiting := !sent, sent, window := if sent then some 3 else none
      waitFor := none, waitTimer := none }
  (s.setPermits { claims := enterClaim s.permits.claims c, flight := some f },
    { result := .pending, body := .claimOpened id s.today s.now })

/-- R113. -/
def reqClaimVisitorDay (p : PermitRecord) (key : Nat) (s : State) : State × Answer :=
  match permitForm p with
  | none => (s, .bad)
  | some cls =>
    if key = 0 then (s, .bad)
    else if s.faults.service = .outOfService ∨ s.faults.service = .hold then (s, .refuse .outOfService)
    else match s.checkPermit p cls key .claimVisitorDay with
    | (s', .error r) => (s', .refuse r)
    | (s', .ok (.valid ..)) => (s', .refuse .notVisitorBook)
    | (s', .ok (.visitor allowance)) =>
      match claimRefusal s'.permits p.serial s'.today key allowance with
      | some a => (s', a)
      | none =>
        let body : ClaimOpenBody :=
          { idSeq := 0, serial := p.serial, day := s'.today, key, openTime := s'.now, allowance, attempt := 1 }
        match s'.handOwn (.claimOpen body) with
        | (_, .refused) => (s', .refuse .zoneBusy)
        | (s'', .queued seq) => s''.openClaim p.serial key allowance { origin := s'.own, seq } false
        | (s'', .completed) => s''.openClaim p.serial key allowance { origin := 0, seq := 0 } true

/-! ### Claims heard (R119, R120) -/

/-- A claim as an OBJECT body carries it. -/
def carriedOf (c : Claim) : CarriedClaim := { id := c.id, key := c.key, openTime := c.openTime }

/-- A carried claim of a book and day. -/
def claimOf (serial day : Nat) (x : CarriedClaim) : Claim :=
  { serial, day, key := x.key, id := x.id, openTime := x.openTime, state := .firm, ageing := none }

/-- R114: the claim id of a CLAIM OPEN frame with the given origin and sequence. An attempt number of 0, which R114 does not
give an id, takes the id's sequence from the body as 2 and 3 do, which is the model's choice (log 72). -/
def openFrameId (origin seq : Nat) (b : ClaimOpenBody) : ClaimId :=
  { origin, seq := if b.attempt = 1 then seq else b.idSeq }

/-- R119: the arriving claim is inserted PROVISIONAL with its ageing timer of 30 seconds. -/
def State.insertProvisional (s : State) (cs : List Claim) (id : ClaimId) (b : ClaimOpenBody) : State :=
  s.setClaims (enterClaim cs
    { serial := b.serial, day := b.day, key := b.key, id, openTime := b.openTime, state := .provisional, ageing := some 30 })

/-- R119: an accepted CLAIM OPEN is judged against the claims of its book on its day. One whose allowance reads 0 is answered
OBJECT COUNT although no vehicle holds the book, with no claim to carry, which is the model's choice (log 79). -/
def State.judgeOpen (s : State) (id : ClaimId) (b : ClaimOpenBody) : State :=
  let p := s.permits
  let arriving : ClaimRef := { id, openTime := b.openTime }
  match p.holder b.serial b.day b.key with
  | some h =>
    (s.handOwn (.objectHeld { target := id, serial := b.serial, day := b.day, carried := carriedOf h })).1
  | none =>
    if b.allowance ≤ p.vehicles b.serial b.day then
      (s.handOwn (.objectCount { target := id, serial := b.serial, day := b.day
                                 carried := ((firmByVehicle b.serial b.day p.claims).take 4).map carriedOf })).1
    else
      match p.claims.find? fun c => c.inFlight && c.of b.serial b.day with
      | some c =>
        ((s.handOwn (.objectConcurrent { target := id, serial := b.serial, day := b.day, carried := carriedOf c })).1).concurrent
          arriving
      | none =>
        match p.claims.find? fun c => c.of b.serial b.day && decide (c.key = b.key ∧ c.state = .provisional) with
        | some c =>
          if claimPrecedes c.ref arriving then
            (s.handOwn (.objectConcurrent { target := id, serial := b.serial, day := b.day, carried := carriedOf c })).1
          else s.insertProvisional (p.claims.erase c) id b
        | none => s.insertProvisional p.claims id b

/-- R119. -/
def State.onClaimOpen (s : State) (id : ClaimId) (b : ClaimOpenBody) : State :=
  if b.day < s.today then s
  else if s.permits.claims.any fun c => decide (c.id = id ∧ c.state = .firm) then s
  else
    (s.setClaims (s.permits.claims.filter fun c => !decide (c.id = id ∧ c.state = .provisional))).judgeOpen id b

/-- R120. -/
def State.onClaimFirm (s : State) (id : ClaimId) (b : ClaimFirmBody) : State :=
  if b.day < s.today then s
  else (s.mergeFirm (claimOf b.serial b.day { id, key := b.key, openTime := b.openTime })).waitedFor id

/-- R120. -/
def State.onClaimRelease (s : State) (id : ClaimId) (b : ClaimReleaseBody) : State :=
  if b.day < s.today then s
  else
    (s.setClaims (s.permits.claims.filter fun c => !decide (c.id = id ∧ c.state = .provisional))).waitedFor id

/-- The OBJECT's target is the claim in flight. -/
def PermitBlock.targeted (p : PermitBlock) (target : ClaimId) : Option (Claim × Flight) :=
  p.current.filter fun x => decide (x.1.id = target)

/-- R116: an OBJECT HELD ends the claim in flight ALREADY HELD, or is evidence (R120). -/
def State.onObjectHeld (s : State) (b : ObjectOneBody) : State :=
  let x := claimOf b.serial b.day b.carried
  match s.permits.targeted b.target with
  | some (c, f) => (s.endFlight c f (.alreadyHeld x.ref)).mergeFirm x
  | none => s.mergeFirm x

/-- R116: an OBJECT COUNT: its claims are merged as FIRM; the claim in flight it targets is then judged, and opened again
when PENDING with no OPEN awaiting transmission. -/
def State.onObjectCount (s : State) (b : ObjectCountBody) : State :=
  let merged := (b.carried.map (claimOf b.serial b.day)).foldl State.mergeFirm s
  match s.permits.targeted b.target with
  | none => merged
  | some _ =>
    match merged.permits.targeted b.target with
    | none => merged
    | some (c, f) =>
      match flightVerdict merged.permits c f with
      | some o => merged.endFlight c f o
      | none => if c.state = .waiting ∨ f.awaiting then merged else merged.reopen c f

/-- R116, R117, R120: an OBJECT CONCURRENT for the claim in flight makes it wait, if need be; a late one, for a claim of this
station no longer in flight, has its carried claim merged as FIRM; one for a claim of another station is ignored. A claim of
this station is known by its target's origin (log 48). -/
def State.onObjectConcurrent (s : State) (b : ObjectOneBody) : State :=
  match s.permits.targeted b.target with
  | some _ => s.concurrent { id := b.carried.id, openTime := b.carried.openTime }
  | none => if b.target.origin = s.own then s.mergeFirm (claimOf b.serial b.day b.carried) else s

/-! ### Expiries and the day (R111, R117, R121) -/

/-- R111: a PROVISIONAL claim's ageing timer has run out. -/
def State.ageOut (s : State) (id : ClaimId) : State :=
  s.setClaims (s.permits.claims.filter fun c => !decide (c.id = id ∧ c.state = .provisional ∧ c.ageing.isSome))

/-- R117: the waiting period has run out. -/
def State.waitOver (s : State) : State :=
  match s.permits.flight with
  | some f => if f.waitTimer.isSome then s.endWait else s
  | none => s

/-- R111, R121: at a day change to a later day, claims of earlier days leave the list. -/
def State.dropOldClaims (s : State) : State :=
  let s' := match s.permits.current with
    | some (c, f) => if c.day < s.today then s.endFlight c f (.deniedExpiredDay s.today) else s
    | none => s
  s'.setClaims (s'.permits.claims.filter fun c => decide (s.today ≤ c.day))

end Sys2Proof.Machine
end

