-- ==== Sys2Proof/Machine/Sales.lean ====
section
/-! DEFINITION. SELL and the end of a walk: the checks of R83 to R87, and the commit of R88 to R92 and R128. -/

namespace Sys2Proof.Machine

/-! ### The checks of a SELL -/

/-- R84: the tender is barred in DEGRADED. -/
def State.tenderBarred (s : State) : Tender → Bool
  | .card => s.cardBarred
  | .cash _ => s.cashBarred

/-- R84: the refusal that the state of the station gives, after time and tariff. -/
def State.standingRefusal (s : State) (t : Tender) : Option Answer :=
  match s.faults.service with
  | .hold => some (.refuse .hold)
  | .outOfService => some (.refuse .outOfService)
  | service =>
    if service = .degraded ∧ s.tenderBarred t then some (.refuse .tenderBarred)
    else match t with
      | .card => none
      | .cash counts =>
        if s.boxRoom counts then none
        else some (.refuse .noBoxRoom (.boxRoom s.ret.box.items (s.cash.capacity.getD 0)))

/-- R85, R86: the record a SELL extends, none for a new session, or the refusal. -/
def State.saleTarget (s : State) (t : TariffTable) (r : SellRequest) : Except Answer (Option StayRecord) :=
  match r.extend with
  | none => match newSessionRefusal s.stay r.key s.now with
    | some a => .error a
    | none => .ok none
  | some id => match extensionRecord s.stay t.name id s.now with
    | .error e => .error (.refuse e)
    | .ok h => .ok (some h)

/-- R87: the discount and the permit to be recorded, or the refusal, with the block list's effects. -/
def State.salePermit (s : State) (r : SellRequest) (h : Option StayRecord) :
    State × Except Reason (Nat × Option PermitMark) :=
  match r.permit with
  | none => (s, .ok (0, none))
  | some p =>
    match permitForm p with
    | none => (s, .ok (0, none))
    | some cls =>
      match s.checkPermit p cls (match h with | some x => x.key | none => r.key) .sell with
      | (s', .error e) => (s', .error e)
      | (s', .ok (.visitor _)) => (s', .error .visitor)
      | (s', .ok (.valid _ (some .exempt))) => (s', .error .exempt)
      | (s', .ok (.valid _ (some (.discount d)))) => (s', .ok (d, some { cls, serial := p.serial }))
      | (s', .ok (.valid _ _)) => (s', .ok (0, none))

/-- R83 to R87: a SELL is refused, or its walk begins. -/
def reqSell (r : SellRequest) (s : State) : State × Option Answer :=
  if !sellForm s.ret.box.denominations r then (s, some .bad)
  else if !s.ret.clock.set then (s, some (.refuse .timeUnset))
  else match s.ret.active with
  | none => (s, some (.refuse .noTariff))
  | some t =>
    match s.standingRefusal r.tender with
    | some a => (s, some a)
    | none => match s.saleTarget t r with
    | .error a => (s, some a)
    | .ok h =>
      match s.salePermit r h with
      | (s', .error e) => (s', some (.refuse e))
      | (s', .ok (d, permit)) =>
        let terms : SaleTerms := { key := r.key, tender := r.tender, examined := s.ret.box.denominations, permit }
        (s'.setWalk (some (beginWalk t s.now r.asked d h (some terms))), none)

/-! ### Commit -/

/-- R71: the result of a DURATION sale completed against its tender; none when a cash total falls short. -/
def completeSale (terms : SaleTerms) (r : WalkResult) : Option WalkResult :=
  match r.asked, terms.tender with
  | .duration _, .cash counts =>
    let total := tenderTotal terms.examined counts
    if total < r.price then none else some { r with excess := total - r.price }
  | _, _ => some r

/-- R88: the record of a new session. -/
def newRecord (terms : SaleTerms) (r : WalkResult) (id : Identity) : StayRecord :=
  { id, key := terms.key, kind := .paid, expiry := r.expiry, minutes := r.minutes, expiryDay := r.expiryDay
    dayMinutes := r.dayMinutes, dayAccrual := r.dayAccrual, dayGross := r.dayGross, grossTotal := r.gross
    paidTotal := r.price, tariff := r.tariff, maxStay := (r.limits.getD (0, 0)).1, noReturn := (r.limits.getD (0, 0)).2
    extensions := 0, lastBy := none, permit := terms.permit }

/-- R89: a record extended. Where its max stay is 0, its charged minutes may pass R80's 1440; the model stores them as the walk
counted them (log 45). -/
def extendedRecord (h : StayRecord) (terms : SaleTerms) (r : WalkResult) (own : Nat) : StayRecord :=
  { h with
    expiry := r.expiry, minutes := r.minutes, expiryDay := r.expiryDay, dayMinutes := r.dayMinutes
    dayAccrual := r.dayAccrual, dayGross := r.dayGross, grossTotal := addLong h.grossTotal r.gross
    paidTotal := addLong h.paidTotal r.price, tariff := r.tariff, extensions := h.extensions + 1, lastBy := some own
    permit := terms.permit.or h.permit }

/-- R90: the record still stands as the walk took it. -/
def sameContinuation (held taken : StayRecord) : Bool :=
  decide (held.extensions = taken.extensions ∧ held.expiry = taken.expiry ∧ held.minutes = taken.minutes ∧
    held.maxStay = taken.maxStay ∧ held.expiryDay = taken.expiryDay ∧ held.dayMinutes = taken.dayMinutes ∧
    held.dayAccrual = taken.dayAccrual ∧ held.dayGross = taken.dayGross)

/-- R90: the record found again for an extension, or the refusal. -/
def foundAgain (t : StayTable) (taken : StayRecord) (table : TariffName) : Except Reason StayRecord :=
  match t.find taken.id with
  | none => .error .unknownTicket
  | some e =>
    if !sameContinuation e.record taken then .error .recordChanged
    else if e.record.tariff.id ≠ table.id then .error .tariffMismatch
    else .ok e.record

/-- R128: the set in force has changed since a cash tender's form was examined. -/
def State.tenderChanged (s : State) (terms : SaleTerms) : Bool :=
  match terms.tender with
  | .card => false
  | .cash _ => decide (s.ret.box.denominations ≠ terms.examined)

/-- R92: the SELL's answer once the record is committed. -/
def soldAnswer (r : WalkResult) (x : StayRecord) : Answer :=
  .done (.sold r x.id x.kind x.extensions (retireTime x))

/-- R92: after the record is written, the cash is counted, the record announced, and the SELL answered. -/
def State.finishSale (s : State) (terms : SaleTerms) (r : WalkResult) (x : StayRecord) : State × Answer :=
  ((s.countCash terms.tender r.price r.excess).announce x, soldAnswer r x)

/-- R88 to R92, R128: the sale is committed or refused. -/
def State.commitSale (s : State) (w : Walk) (terms : SaleTerms) (r : WalkResult) : State × Answer :=
  match w.continued with
  | none =>
    if s.tenderChanged terms then (s, .refuse .tenderChanged)
    else
      let (s', id) := s.takeTicket w.start
      let x := newRecord terms r id
      (s'.enterRecord x).finishSale terms r x
  | some h =>
    match foundAgain s.stay h w.table.name with
    | .error e => (s, .refuse e)
    | .ok held =>
      if s.tenderChanged terms then (s, .refuse .tenderChanged)
      else
        let x := extendedRecord held terms r s.own
        (s.replaceRecord x).finishSale terms r x

/-- R57, R77, R83: what the end of a walk answers to the request it served. -/
def State.concludeWalk (s : State) (w : Walk) : State × Answer :=
  match walkOutcome w with
  | .refused reason clamp => (s, walkRefusal reason clamp)
  | .result r =>
    match w.sale with
    | none => (s, .done (.quoted r))
    | some terms =>
      match completeSale terms r with
      | none => (s, .refuse .shortPayment (.price r.price))
      | some r' => s.commitSale w terms r'

end Sys2Proof.Machine
end

