-- ==== Sys2Proof/Machine/Clock.lean ====
section
/-! DEFINITION. The zone clock (chapter 2): delivery of advances, steps and day changes, merging time from frames, SET TIME,
the counted second, and the elapsed-time timers. -/

namespace Sys2Proof.Machine

/-! ### Delivery (R29) -/

/-- R29: a day change is delivered when the day number differs from the last delivered. Only a change to a later day
removes claims (R111). -/
def State.changeDay (s : State) : State :=
  if s.today = s.day then s
  else if s.day < s.today then (s.setDay s.today).dropOldClaims
  else s.setDay s.today

/-- R98, R99: an advance or a step forward retires the records it reaches; a step backward retires nothing. -/
def State.retireOn (s : State) (forward : Bool) : State := if forward then s.retireDue else s

/-- R29: an advance or a step is delivered: the tariff store, the stay table and the cash unit take the deadlines reached,
and then the day change, if any, reaches the permit unit (log 12). -/
def State.deliver (s : State) (forward : Bool) : State :=
  (((s.activateDue true).retireOn forward).expireRound).changeDay

/-- R32: zone time moves forward without a step. -/
def State.advanceBy (s : State) (d : Nat) : State :=
  (s.setClock { s.ret.clock with time := min (s.now + d) zoneTimeMax }).deliver true

/-- R33, R35: every disputed flag is cleared. -/
def State.clearDisputes (s : State) : State :=
  s.setChan { s.chan with neighbours := s.chan.neighbours.map fun e => { e with disputed := false } }

/-- R35: a time step. R35 lists its effects without an order; that TIME UNSET and CLOCK DISAGREE are cleared after the clock
has changed and before the step is delivered, and that TIME STEPPED is given after what the delivery gives, is the model's
choice (log 60). -/
def State.timeStep (s : State) (cause : StepCause) (time epoch : Nat) : State :=
  let s1 := s.setClock { time, epoch, set := true }
  let s2 := s1.clear .timeUnset
  let s3 := (s2.clearDisputes).clear .clockDisagree
  (s3.deliver (decide (s.now ≤ time))).give (.timeStepped cause s.now s.ret.clock.epoch time epoch)

/-! ### Merging (R30 to R33) -/

/-- R32, R33: equal epochs: small leads are followed, larger ones slewed, and beyond 120 seconds the sender is disputed. The
dispute, with CLOCK DISAGREE, is settled before the time moves, which is the model's choice (log 43). -/
def State.mergeEqual (s : State) (sender time : Nat) : State :=
  let late := s.now + 120 < time
  let e := s.neighbour sender
  let s' := (s.setNeighbour sender { e with disputed := decide late }).reconsiderClocks
  if late ∨ time ≤ s.now then s'
  else s'.advanceBy (min (time - s.now) 2)

/-- R30, R31: an accepted frame is offered to the clock. -/
def State.mergeTime (s : State) (h : RxHeader) : State :=
  if !h.timeSet then s
  else if !s.ret.clock.set then s.timeStep .learnt h.time h.epoch
  else if epochNewer h.epoch s.ret.clock.epoch then s.timeStep .epoch h.time h.epoch
  else if h.epoch = s.ret.clock.epoch then s.mergeEqual h.sender h.time
  else s

/-! ### SET TIME (R36) -/

/-- R36. The prompt STATUS is queued after the frames that the step's own effects hand, which is the model's choice
(log 52). -/
def reqSetTime (time : Nat) (s : State) : State × Answer :=
  if zoneTimeMax < time then (s, .bad)
  else
    let epoch := (s.ret.clock.epoch + 1) % byteSpan
    ((s.timeStep .set time epoch).queueStatus, .done (.timeSet s.ret.clock { time, epoch, set := true }))

/-! ### The counted second (R26, R39) -/

/-- A running timer counts down; at 0 its expiry is due (log 5). -/
def tick (t : Option Nat) : Option Nat := t.map fun n => n - 1

/-- R39: every running elapsed-time timer counts one second. -/
def State.tickTimers (s : State) : State :=
  let chan := { s.chan with
    statusTimer := tick s.chan.statusTimer, duplicateTimer := tick s.chan.duplicateTimer
    neighbours := s.chan.neighbours.map fun e =>
      { e with directTimer := tick e.directTimer, silenceTimer := tick e.silenceTimer } }
  let permits : PermitBlock :=
    { claims := s.permits.claims.map fun c => { c with ageing := tick c.ageing }
      flight := s.permits.flight.map fun f => { f with window := tick f.window, waitTimer := tick f.waitTimer } }
  let cash := { s.cash with
    doorTimer := tick s.cash.doorTimer, auth := s.cash.auth.map fun a => { a with left := a.left - 1 } }
  let faults := { s.faults with
    liveness := tick s.faults.liveness
    table := s.faults.table.map fun e => { e with refresh := tick e.refresh } }
  (((s.setChan chan).setPermits permits).setCash cash).setFaults faults

/-- R26: the clock counts a second; at 4294967295 zone time stands. -/
def State.countSecond (s : State) : State := s.tickTimers.advanceBy 1

/-- R171: the backup clock counts a number of seconds while main power is absent. -/
def State.backupCount (s : State) (n : Nat) : State :=
  s.setClock { s.ret.clock with time := min (s.now + n) zoneTimeMax }

end Sys2Proof.Machine
end

