-- ==== Sys2Proof/Machine/Layout.lean ====
section
/-! DEFINITION. The layouts of what a station sends on the zone channel (10.1 to 10.3): codes, the carried stay record, the
bodies and the header, and the whole frame with its check (R174). -/

namespace Sys2Proof.Machine

/-! ### Codes (R173, 10.1, 10.2) -/

/-- 10.1: the code of a class. -/
def classCode : FrameClass → Nat
  | .urgent => 0 | .claim => 1 | .record => 2 | .bulk => 3

/-- 10.2: the code of a service state. -/
def serviceCode : ServiceState → Nat
  | .inService => 0 | .degraded => 1 | .outOfService => 2 | .hold => 3

/-- 10.2: the code of a fill band. -/
def fillCode : FillBand → Nat
  | .normal => 0 | .nearFull => 1 | .full => 2

/-- 10.2: the code of a severity. -/
def severityCode : Severity → Nat
  | .info => 0 | .warning => 1 | .degradedCash => 2 | .degradedCard => 3 | .service => 4

/-- 10.2: the code of a transition. -/
def transitionCode : Transition → Nat
  | .raised => 0 | .cleared => 1 | .refresh => 2

/-! ### The carried stay record (10.3) -/

/-- 10.3: the 48 bytes of a record. That a quantity beyond its field is sent by its low bits is the model's choice: a time
above 32 bits (log 80), a gross at expiry day or a count of expiry-day charged minutes grown from a heard record (log 78), and
charged minutes (log 45). -/
def recordBytes (r : StayRecord) : List Byte :=
  List.flatten [
    toBytes 1 (r.id.origin * 8 + bitOf 4 (decide (r.kind = .visitorDay)) + bitOf 2 r.permit.isSome),
    toBytes 3 r.id.number, toBytes 4 r.id.start, toBytes 4 r.key, toBytes 4 r.expiry, toBytes 2 r.expiryDay,
    toBytes 2 (r.minutes * 32 + r.extensions * 2), toBytes 2 (r.dayMinutes * 32), toBytes 4 r.dayAccrual,
    toBytes 2 r.dayGross, toBytes 4 r.grossTotal, toBytes 4 r.paidTotal, toBytes 2 r.tariff.id,
    toBytes 2 r.tariff.version, toBytes 3 (r.maxStay * 8192 + r.noReturn * 4),
    toBytes 1 (r.lastBy.getD 0 * 8 + (r.permit.map fun p => permitClassCode p.cls * 2).getD 0),
    toBytes 4 ((r.permit.map PermitMark.serial).getD 0)]

/-! ### Zone frames (10.1, 10.2) -/

/-- 10.2: a claim carried by an OBJECT body, its open time as seconds into the tariff day. That its origin and open time stand
at the top of their 3 bytes, the 2 lowest bits reserved, is deduced (log 58). An open time outside the tariff day is sent as 0
seconds when before it and by its low 17 bits when beyond them, which is the model's choice (log 71). -/
def carriedBytes (day : Nat) (x : CarriedClaim) : List Byte :=
  List.flatten [
    toBytes 3 (x.id.origin * 524288 + (x.openTime - day * daySeconds) % 131072 * 4), toBytes 2 x.id.seq, toBytes 4 x.key]

/-- 10.2: the body of an OBJECT frame. -/
def objectBytes (target : ClaimId) (serial day : Nat) (carried : List CarriedClaim) : List Byte :=
  List.flatten [
    toBytes 1 (target.origin * 8 + carried.length), toBytes 2 target.seq, toBytes 4 serial, toBytes 2 day,
    carried.flatMap (carriedBytes day)]

/-- 10.2: the body of a CLAIM frame. -/
def claimBytes (idSeq serial day key openTime allowance attempt : Nat) : List Byte :=
  List.flatten [
    toBytes 2 idSeq, toBytes 4 serial, toBytes 2 day, toBytes 4 key, toBytes 4 openTime,
    toBytes 1 (allowance * 32 + attempt * 8)]

/-- 10.2: the body of a ROUND frame. -/
def roundBytes (id : RoundId) (collector : Option Nat) (e : RoundEntry) : List Byte :=
  List.flatten [
    toBytes 4 id.time, toBytes 1 id.station, toBytes 4 (collector.getD 0), toBytes 1 e.station, toBytes 4 e.lastAt,
    toBytes 4 e.items, toBytes 4 e.value]

/-- A ROUND body's entry fields where it carries none. -/
def noEntry : RoundEntry := { station := 0, lastAt := 0, items := 0, value := 0 }

/-- 10.2: the body of a STATUS frame. -/
def statusBytes (b : StatusBody) : List Byte :=
  List.flatten [
    toBytes 1 (serviceCode b.service * 64 + fillCode b.band * 16 + bitOf 8 b.tariff.isSome + bitOf 4 b.round.isSome),
    toBytes 1 b.distance, toBytes 1 b.period, toBytes 2 ((b.tariff.map TariffName.id).getD 0),
    toBytes 2 ((b.tariff.map TariffName.version).getD 0), toBytes 4 ((b.round.map RoundId.time).getD 0),
    toBytes 1 ((b.round.map RoundId.station).getD 0)]

/-- 10.2: the body of a FAULT frame. -/
def faultBytes (b : FaultBody) : List Byte :=
  let r := b.report
  List.flatten [
    toBytes 1 (faultCode r.kind),
    toBytes 1 (transitionCode r.transition * 64 + severityCode r.severity * 8 + bitOf 4 r.eventSet),
    toBytes 4 r.eventTime, toBytes 1 r.eventEpoch, toBytes 4 r.raisedAt, toBytes 2 r.detail, toBytes 1 r.occurrences,
    toBytes 1 b.distance]

/-- 10.2: the body of a frame. -/
def bodyBytes : AirBody → List Byte
  | .status b => statusBytes b
  | .stay rs => toBytes 1 rs.length ++ rs.flatMap recordBytes
  | .claimOpen b => claimBytes b.idSeq b.serial b.day b.key b.openTime b.allowance b.attempt
  | .claimFirm b => claimBytes b.idSeq b.serial b.day b.key b.openTime 0 0
  | .claimRelease b => claimBytes b.idSeq b.serial b.day b.key 0 0 0
  | .objectCount b => objectBytes b.target b.serial b.day b.carried
  | .objectHeld b => objectBytes b.target b.serial b.day [b.carried]
  | .objectConcurrent b => objectBytes b.target b.serial b.day [b.carried]
  | .roundOpen b => roundBytes b.id b.collector noEntry
  | .roundEntry b => roundBytes b.id b.collector b.entry
  | .roundClose b => roundBytes b.id none noEntry
  | .fault b => faultBytes b

/-- 10.1: the kind and sub-kind codes of a body. -/
def kindCodes : AirBody → Nat × Nat
  | .status _ => (0, 0)
  | .stay _ => (1, 0)
  | .claimOpen _ => (2, 0) | .claimFirm _ => (2, 1) | .claimRelease _ => (2, 2)
  | .objectCount _ => (3, 0) | .objectHeld _ => (3, 1) | .objectConcurrent _ => (3, 2)
  | .roundOpen _ => (4, 0) | .roundEntry _ => (4, 1) | .roundClose _ => (4, 2)
  | .fault _ => (5, 0)

/-- 10.1: the 13 bytes of the header. -/
def headerBytes (f : AirFrame) (length : Nat) : List Byte :=
  List.flatten [
    toBytes 2 (f.zone * 16 + f.hop * 4 + bitOf 2 f.relay + bitOf 1 f.timeSet), toBytes 1 (f.sender * 8),
    toBytes 1 (f.origin * 8), toBytes 2 f.seq,
    toBytes 1 ((kindCodes f.body).1 * 32 + (kindCodes f.body).2 * 8 + classCode f.cls * 2), toBytes 1 f.epoch,
    toBytes 4 f.time, toBytes 1 length]

/-- 10.1, R174: a frame as it is sent, with the check over its header and body. -/
def frameBytes (f : AirFrame) : List Byte := withCheck (headerBytes f (bodyBytes f.body).length ++ bodyBytes f.body)

end Sys2Proof.Machine
end

