-- ==== Sys2Proof/Machine/Channel.lean ====
section
/-! DEFINITION. The zone link controller (chapter 1): access to the channel, transmission and completion, the arrival of
frames, the neighbour table, and the frame commands. -/

namespace Sys2Proof.Machine

/-! ### Access to the channel (R4 to R8) -/

/-- R8: the earliest admitted entry of a class not in transmission. -/
def eldest (q : List TxEntry) (c : FrameClass) : Option TxEntry :=
  q.find? fun e => decide (e.cls = c) && !e.sending

/-- R8: the queue head. -/
def queueHead (q : List TxEntry) : Option TxEntry :=
  (eldest q .urgent).or ((eldest q .claim).or ((eldest q .record).or (eldest q .bulk)))

/-- R5: the slot of a station for a class. -/
def ownSlot (c : FrameClass) (station : Nat) : Nat := classBand c * 31 + (station - 1)

/-- R6: in FAIR mode a spent station contends with an URGENT head alone. -/
def mayContend (mode : AccessMode) (spent : Bool) (c : FrameClass) : Bool :=
  !(decide (mode = .fair) && spent) || decide (c = .urgent)

/-- R1, R18, R155: the body as it goes out. -/
def State.assemble (s : State) (cfg : Configuration) : QueuedBody → AirBody
  | .status => .status
      { service := s.faults.service, distance := s.chan.distance, band := s.cash.band.getD .normal
        tariff := s.ret.active.map TariffTable.name, round := s.openRound, period := cfg.statusPeriod }
  | .stay rs _ => .stay rs
  | .claimOpen b => .claimOpen b
  | .claimFirm b => .claimFirm b
  | .claimRelease b => .claimRelease b
  | .objectCount b => .objectCount b
  | .objectHeld b => .objectHeld b
  | .objectConcurrent b => .objectConcurrent b
  | .roundOpen b => .roundOpen b
  | .roundEntry b => .roundEntry b
  | .roundClose b => .roundClose b
  | .fault _ r => .fault { report := r, distance := s.chan.distance }

/-- R1: the frame of an entry as its transmission begins. -/
def State.airFrame (s : State) (r : Running) (e : TxEntry) : AirFrame :=
  { zone := r.config.zone, sender := r.number, origin := e.origin, seq := e.seq, hop := e.hop, relay := e.relay
    cls := e.cls, time := s.now, epoch := s.ret.clock.epoch, timeSet := s.ret.clock.set
    body := s.assemble r.config e.body }

/-- R174: a frame with the bytes that are sent of it. -/
def sendingOf (f : AirFrame) : Sending := { frame := f, octets := frameBytes f }

/-- R5, R7, R174: the transmission of an entry begins, its check computed over the values filled now. -/
def State.beginSending (s : State) (r : Running) (e : TxEntry) : State :=
  s.setChan { s.chan with
    phase := .sending, onAir := some (sendingOf (s.airFrame r e))
    queue := s.chan.queue.map fun x => if x = e then { x with sending := true } else x }

/-- R5: slot `slot` of the present window begins on an idle channel. -/
def State.slotBegins (s : State) (slot : Nat) : State :=
  match s.chan.phase, s.link.running with
  | .window last, some r =>
    if 123 < slot ∨ last.any (fun l => decide (slot ≤ l)) then s
    else
      let s' := s.setChan { s.chan with phase := .window (some slot) }
      match queueHead s.chan.queue with
      | none => s'
      | some e =>
        if slot = ownSlot e.cls r.number && mayContend r.config.mode s.chan.spent e.cls then s'.beginSending r e else s'
  | _, _ => s

/-- R7: what the completion of an own frame does at the block that handed it. -/
def State.onCompleted (s : State) (e : TxEntry) : State :=
  if e.copy then s
  else match e.body with
  | .stay records true => s.announced records
  | .claimOpen b => s.openSent (openFrameId e.origin e.seq b)
  | _ => s

/-- R7: the transmit completion event. -/
def State.completeSending (s : State) : State :=
  if s.chan.phase ≠ .sending then s
  else
    let fair := s.link.running.any fun r => decide (r.config.mode = .fair)
    let s' := s.setChan { s.chan with
      phase := .gap, onAir := none, spent := s.chan.spent || fair, queue := s.chan.queue.filter fun e => !e.sending }
    match s.chan.queue.find? TxEntry.sending with
    | some e => s'.onCompleted e
    | none => s'

/-- R4: carrier of another source is sensed in a window or a gap. -/
def State.senseCarrier (s : State) : State :=
  match s.chan.phase with
  | .window _ | .gap => s.setChan { s.chan with phase := .carrier }
  | _ => s

/-- R4: the end of sensed carrier starts the gap. -/
def State.endCarrier (s : State) : State :=
  match s.chan.phase with
  | .carrier | .window _ | .gap => s.setChan { s.chan with phase := .gap }
  | _ => s

/-- R4: the channel has stayed idle for the 6 ms: a window begins. -/
def State.endGap (s : State) : State :=
  match s.chan.phase with
  | .gap => s.setChan { s.chan with phase := .window none }
  | _ => s

/-- R4, R6: an idle window ends: the spent mark is cleared and the next window begins. -/
def State.idleWindow (s : State) : State :=
  match s.chan.phase with
  | .window _ => s.setChan { s.chan with phase := .window none, spent := false }
  | _ => s

/-! ### The neighbour table (R20, R21) -/

/-- R21: an entry heard as sender. -/
def Neighbour.heardAsSender (e : Neighbour) (now period : Nat) : Neighbour :=
  { e with state := .fresh, lastHeard := some now, direct := true, directTimer := some (3 * period)
           silenceTimer := some 600 }

/-- R21: an entry heard as origin, not as sender. -/
def Neighbour.heardAsOrigin (e : Neighbour) (now : Nat) : Neighbour :=
  { e with state := .fresh, lastHeard := some now, silenceTimer := some 600 }

/-- R21: the direct timer has run out. -/
def Neighbour.directOver (e : Neighbour) : Neighbour :=
  { e with direct := false, directTimer := none, state := if e.state = .fresh then .stale else e.state }

/-- R12: the sender's entry, and the origin's when another, are marked heard. What follows their changes (R21, R34, R54) is
reconsidered once, after both, which is the model's choice (log 41). -/
def State.hear (s : State) (h : RxHeader) (period : Nat) : State :=
  let s1 := s.setNeighbour h.sender ((s.neighbour h.sender).heardAsSender s.now period)
  let s2 :=
    if h.origin = h.sender ∨ h.origin = s.own then s1
    else s1.setNeighbour h.origin ((s1.neighbour h.origin).heardAsOrigin s.now)
  s2.neighboursChanged

/-- R21: a neighbour's direct timer expires. -/
def State.directExpiry (s : State) (n : Nat) : State :=
  let e := s.neighbour n
  if e.directTimer.isNone then s else (s.setNeighbour n e.directOver).neighboursChanged

/-- R21: a neighbour's silence timer expires. -/
def State.silenceExpiry (s : State) (n : Nat) : State :=
  if (s.neighbour n).silenceTimer.isNone then s else (s.setNeighbour n Neighbour.initial).neighboursChanged

/-! ### De-duplication (R13, R14) -/

/-- R13: a window opened at a sequence. -/
def SeqWindow.at (q : Nat) : SeqWindow := { high := q, marks := 0 }

/-- R13: the window moved forward so that q is its highest sequence. -/
def SeqWindow.forward (w : SeqWindow) (q : Nat) : SeqWindow :=
  let d := seqBehind q w.high
  { high := q, marks := (w.marks <<< d) ||| (1#32 <<< (d - 1)) }

/-- R13: the mark of the sequence d behind the highest. -/
def SeqWindow.seen (w : SeqWindow) (d : Nat) : Bool := w.marks.getLsbD (d - 1)

/-- R13: the mark of the sequence d behind the highest is set. -/
def SeqWindow.mark (w : SeqWindow) (d : Nat) : SeqWindow := { w with marks := w.marks ||| (1#32 <<< (d - 1)) }

/-- R13: q is newer than the highest sequence; at exactly 32768 apart that is a free choice (log 16). -/
def SeqWindow.newer (w : SeqWindow) (q : Nat) : Bool :=
  seqNewer q w.high || (decide (seqBehind q w.high = 32768) && Config.halfwayNewer w.high q)

/-- R13: a relayable frame is accepted, with the window after it, or discarded. -/
def dedupe (w : Option SeqWindow) (q : Nat) : Option SeqWindow :=
  match w with
  | none => some (SeqWindow.at q)
  | some w =>
    let d := seqBehind w.high q
    if w.newer q then some (w.forward q)
    else if d = 0 then none
    else if d ≤ 32 then (if w.seen d then none else some (w.mark d))
    else none

/-- R14: the window after a frame that is never discarded as a duplicate. -/
def follow (w : Option SeqWindow) (q : Nat) (isStatus : Bool) : SeqWindow :=
  match w with
  | none => SeqWindow.at q
  | some w =>
    let d := seqBehind w.high q
    if w.newer q then w.forward q
    else if d = 0 then w
    else if d ≤ 32 then w.mark d
    else if isStatus then SeqWindow.at q
    else w

/-- R13, R14: an accepted frame's sequence is recorded in its origin's window; none where the frame is discarded. -/
def State.recordSeq (s : State) (h : RxHeader) (isStatus : Bool) : Option State :=
  let e := s.neighbour h.origin
  if h.relay then
    (dedupe e.window h.seq).map fun w => s.setNeighbour h.origin { e with window := some w }
  else some (s.setNeighbour h.origin { e with window := some (follow e.window h.seq isStatus) })

/-! ### Arrival (R11, R12, R15, R16) -/

/-- The station listens: started on the channel, with main power, and not transmitting (R7, R24, R25). -/
def State.listening (s : State) : Option Running :=
  if s.supply.power ∧ s.chan.phase ≠ .sending then s.link.running.filter fun r => decide (r.number ≠ 0) else none

/-- The DUPLICATE STATION timer replaced. -/
def State.setDuplicateTimer (s : State) (t : Option Nat) : State := s.setChan { s.chan with duplicateTimer := t }

/-- R11: a frame bears the own station number as its sender: DUPLICATE STATION is raised and its three status periods start
afresh. -/
def State.duplicateStation (s : State) (h : RxHeader) (period : Nat) : State :=
  (s.raise .duplicateStation h.origin).setDuplicateTimer (some (3 * period))

/-- R11: three status periods have passed without a further such frame. -/
def State.duplicateOver (s : State) : State :=
  if s.chan.duplicateTimer.isNone then s else (s.setDuplicateTimer none).clear .duplicateStation

/-- R16: an accepted frame other than a FAULT frame is relayed. -/
def State.relayFrame (s : State) (h : RxHeader) (hopLimit : Nat) (b : QueuedBody) : State :=
  if h.relay ∧ h.hop < hopLimit then s.handCopy b h.origin h.seq (h.hop + 1) h.relay h.cls else s

/-- What follows the acceptance of a frame (R12 to R15): an echo and a duplicate go no further; any other frame is offered
to the clock and handed on. -/
def State.accept (s : State) (h : RxHeader) (r : Running) (isStatus : Bool) (owner : Running → State → State) : State :=
  let heard := s.hear h r.config.statusPeriod
  if h.origin = r.number then heard
  else match heard.recordSeq h isStatus with
  | none => heard
  | some s' => owner r (s'.mergeTime h)

/-- The passage of an arriving frame through the link controller (1.4): the checks of R11, and what follows them. -/
def State.receive (s : State) (h : RxHeader) (f : FrameForm) (isStatus : Bool) (owner : Running → State → State) : State :=
  match s.listening with
  | none => s
  | some r =>
    if !headerOk h f r.config.zone then s
    else if h.sender = r.number then s.duplicateStation h r.config.statusPeriod
    else s.accept h r isStatus owner

/-- A frame of a fixed class and length that is handed to its block and relayed (R2, R16; log 13). -/
def State.receiveRelayed (s : State) (h : RxHeader) (length : Nat) (countOk : Bool) (b : QueuedBody)
    (owner : State → State) : State :=
  s.receive h { classOk := decide (h.cls = b.cls), length, countOk } false fun r t =>
    (owner t).relayFrame h r.config.hopLimit b

/-! ### The owners of the kinds -/

/-- R19: the values of a STATUS frame replace those reported before. -/
def reportedOf (b : StatusBody) : Reported :=
  { service := b.service, distance := b.distance, band := b.band, tariff := b.tariff, period := b.period }

/-- R19: an accepted STATUS frame. Its round id reaches the cash unit after what follows the reported values, which is the
model's choice (log 41). -/
def State.onStatus (s : State) (origin : Nat) (b : StatusBody) : State :=
  let s1 := s.setNeighbour origin { s.neighbour origin with reported := some (reportedOf b) }
  let s2 := s1.recomputeDistance.reconsiderTariffIf true
  match b.round with
  | some id => s2.onRound id .status
  | none => s2

/-- R157: a station nearer the sink than the sender repeats a FAULT frame. That it does so whatever the frame's relay-allowed
flag, of which R2 says that it decides whether a frame may be repeated, is the model's choice (log 77). -/
def State.repeatFault (s : State) (h : RxHeader) (b : FaultBody) : State :=
  if s.chan.distance < 7 ∧ s.chan.distance < b.distance then
    s.handCopy (.fault 0 { b.report with origin := h.origin }) h.origin h.seq (min (h.hop + 1) 3) h.relay h.cls
  else s

/-- R157, R158: an accepted FAULT frame. -/
def State.onFault (s : State) (h : RxHeader) (b : FaultBody) : State :=
  if s.isSink then (s.toInbox { b.report with origin := h.origin } (some h.seq) false).1 else s.repeatFault h b

/-! ### Timers of the link controller and of fault reports (R17, R153, R154) -/

/-- R17, R93, R145, R156: the status timer expires: it restarts, a STATUS is queued, and the expiry is delivered to the other
blocks. Their order, which a nearly full queue shows, is the model's choice (log 40): the own STATUS, the stay table's
re-announcement, the cash unit's ROUND ENTRY, the fault unit's deferred reports. -/
def State.statusExpiry (s : State) : State :=
  match s.chan.statusTimer, s.link.running with
  | some _, some r =>
    let s1 := (s.setChan { s.chan with statusTimer := some r.config.statusPeriod }).queueStatus
    let s2 := s1.reannounce.reannounceEntry
    if s2.chan.distance < 7 then s2.offerDeferred else s2
  | _, _ => s

/-- R153: the liveness timer expires. -/
def State.livenessExpiry (s : State) : State :=
  match s.faults.liveness, s.link.running with
  | some _, some r =>
    let period := r.config.liveness
    if s.faults.quiet = 0 then
      (s.setFaults { s.faults with liveness := some period, quiet := 1 }).give (.hostQuiet period)
    else (s.setFaults { s.faults with liveness := none, quiet := 2 }).raise .hostSilent period
  | _, _ => s

/-- R154: a refresh timer expires: an active entry is reported and its timer started again. -/
def State.refreshExpiry (s : State) (k : FaultKind) : State :=
  let e := s.faultEntry k
  if e.active ∧ e.refresh.isSome then (s.setFaultEntry k { e with refresh := some 600 }).makeReport k .refresh else s

/-- R131: the authorization timer expires. -/
def State.authorizationOver (s : State) : State := s.consume

end Sys2Proof.Machine
end

