-- ==== Sys2Proof/Machine/Starts.lean ====
section
/-! DEFINITION. Starts and main power (section 9.5, and each block's values after a start): what every start does, power-up
with the backup marker, the reset line, and the loss of main power. -/

namespace Sys2Proof.Machine

/-- R170: the values a start gives before its conditions and events: the retained items given, the initial working state
of every block, the lines as they stand, the waiting commands kept. -/
def State.startValues (s : State) (reason : StartReason) (ret : Retained) : State :=
  { supply := { s.supply with power := true, marker := .valid }
    ret
    chan := ChannelBlock.initial
    day := tariffDay ret.clock.time
    staging := []
    walk := none
    stay := StayTable.initial
    permits := PermitBlock.initial
    cash := CashBlock.initial
    faults := FaultBlock.initial
    link := MachineLink.initial reason s.link.choices
    pending := s.pending }

/-- R38, R53: TIME UNSET and NO TARIFF are raised where they hold. -/
def State.raiseUnready (s : State) : State :=
  let s' := if s.ret.clock.set then s else s.raiseIf false .timeUnset 0
  if s'.ret.active.isSome then s' else s'.raiseIf false .noTariff 0

/-- R137: FORCED DOOR is raised again when the retained forced-outstanding flag is set. -/
def State.raiseForced (s : State) : State :=
  if s.ret.door.forcedOutstanding then s.raiseIf false .forcedDoor s.ret.door.openings else s

/-- R136: the BOX line against the door record. -/
def State.compareBox (s : State) : State :=
  match s.supply.boxAbsent, s.ret.door.boxAbsent with
  | true, false => s.removeBox false .foundAbsent
  | false, true => s.insertBox false
  | _, _ => s

/-- R136: the DOOR line against the door record; a door already OPEN has its door timer started afresh. -/
def State.compareDoor (s : State) : State :=
  match s.supply.doorOpen, s.ret.door.doorOpen with
  | true, false => s.openDoor false
  | false, true => s.closeDoor false
  | true, true => s.setCash { s.cash with doorTimer := some 600 }
  | false, false => s

/-- R152: the service state found at the end of a start, without a notice. -/
def State.deriveQuietly (s : State) : State := s.setFaults { s.faults with service := s.derivedService }

/-- R56, R136, R144, R161, R171: the conditions and events of a start, in the order of log 15. -/
def State.startEvents (s : State) (lost : Bool) : State :=
  let s1 := (s.raiseUnready.activateDue false).expireRound
  let s2 := s1.raiseForced.compareBox.compareDoor
  (if lost then s2.raiseIf false .retainedLost 0 else s2).deriveQuietly

/-- R170: a warm start. -/
def State.warmStart (s : State) (reason : StartReason) : State := (s.startValues reason s.ret).startEvents false

/-- R170, R171: a cold start; `lost` when the marker read BROKEN. -/
def State.coldStart (s : State) (lost : Bool) : State := (s.startValues .cold Retained.initial).startEvents lost

/-- R171: what the marker reads at power-up; a store whose check no longer agrees reads BROKEN. -/
def Supply.reading (p : Supply) (spoiled : Bool) : Marker := if p.marker = .valid ∧ spoiled then .broken else p.marker

/-- R171: main power returns after an outage of so many seconds (log 10). -/
def State.powerUp (s : State) (outage : Nat) (spoiled : Bool) : State :=
  if s.supply.power then s
  else match s.supply.reading spoiled with
  | .valid => (s.backupCount outage).warmStart .power
  | .blank => s.coldStart false
  | .broken => s.coldStart true

/-- R171: main power is lost: the backup domain keeps the retained store and the marker; the working state is gone and
stands here at its initial values (log 38). -/
def State.powerLoss (s : State) : State :=
  if s.supply.power then
    { s.startValues s.link.reason s.ret with supply := { s.supply with power := false } }
  else s

/-- R172: the reset line is asserted: a warm start that stays in progress while the line is held. Without main power it gives no
start, and a power-up with the line held keeps its own reason, its start in progress until the release: the model's choices
(log 75). -/
def State.assertReset (s : State) : State :=
  if s.supply.resetHeld then s
  else
    let s' := s.setSupply { s.supply with resetHeld := true }
    if s.supply.power then s'.warmStart .line else s'

/-- R172: the reset line is released: a start in progress ends. -/
def State.releaseReset (s : State) : State := s.setSupply { s.supply with resetHeld := false }

/-! ### The door and box lines (R130, log 30) -/

/-- A change of the DOOR line; without main power the line alone changes. -/
def State.doorLine (s : State) (isOpen : Bool) : State :=
  if s.supply.doorOpen = isOpen then s
  else
    let s' := s.setSupply { s.supply with doorOpen := isOpen }
    if !s.supply.power then s' else if isOpen then s'.openDoor true else s'.closeDoor true

/-- A change of the BOX line; without main power the line alone changes. -/
def State.boxLine (s : State) (absent : Bool) : State :=
  if s.supply.boxAbsent = absent then s
  else
    let s' := s.setSupply { s.supply with boxAbsent := absent }
    if !s.supply.power then s' else if absent then s'.removeBox true .removed else s'.insertBox true

end Sys2Proof.Machine
end

