-- ==== Sys2Proof/Machine/Link.lean ====
section
/-! DEFINITION. The machine link (chapter 9): START and QUERY STATUS, the requests of the fault unit and the link
controller, the gating of requests, and the two mailboxes. -/

namespace Sys2Proof.Machine

/-! ### START (R167, R168) -/

/-- R166: the pending notices that a configuration's levels keep. -/
def MachineLink.withConfiguration (l : MachineLink) (r : Running) : MachineLink :=
  let l' := { l with running := some r }
  { l' with notices := l.notices.filter fun n => decide (l'.level n.body.kind ≠ .off) }

/-- R25, R168: the link controller begins: it listens unless in LOCAL mode, starts the status timer and queues its first
STATUS. -/
def State.startChannel (s : State) (r : Running) : State :=
  (s.setChan { s.chan with
    phase := if r.number = 0 then .deaf else .gap
    distance := if r.config.sink then 0 else 7
    statusTimer := some r.config.statusPeriod }).queueStatus

/-- R153: the liveness timer started with period L, or left stopped for 0. -/
def livenessFrom (period : Nat) : Option Nat := if period = 0 then none else some period

/-- R153: the liveness timer at START. -/
def State.startLiveness (s : State) (period : Nat) : State :=
  s.setFaults { s.faults with liveness := livenessFrom period, quiet := 0 }

/-- R168: a START is taken and the configuration handed to the blocks (log 14). -/
def State.begin (s : State) (r : Running) : State :=
  let s1 := (s.setLink (s.link.withConfiguration r)).startChannel r
  let s2 := s1.startLiveness r.config.liveness
  (if r.config.sink then s2.offerDeferred else s2).startCash r.config

/-- R168: START's response. -/
def State.startReport (s : State) (r : Running) (marks : Bool × Bool × Bool × Bool) : StartReport :=
  { number := r.number, config := r.config, marks, denominations := s.ret.box.denominations
    setWaiting := s.cash.waitingSet.isSome, reason := s.link.reason }

/-- R167. A second START is refused ALREADY STARTED whatever its fields hold, a code that R173 calls malformed among them, which
is the model's choice (log 70). -/
def reqStart (q : StartRequest) (s : State) : State × Answer :=
  match s.link.running with
  | some _ => (s, .refuse .alreadyStarted)
  | none =>
    match checkStart q s.ret.box.items with
    | .refused reason => (s, .refuse reason)
    | .malformed => (s, .bad)
    | .passes config marks =>
      let r : Running := { number := strapNumber q.straps, config }
      let s' := s.begin r
      (s', .done (.started (s'.startReport r marks)))

/-! ### QUERY STATUS (R169) -/

/-- R169: the body gathered from the blocks. Its item of FRESH neighbours is taken to be their number (log 57). -/
def State.queryReport (s : State) : QueryReport :=
  { running := s.link.running
    reason := s.link.reason
    clock := s.ret.clock
    active := s.ret.active.map TariffTable.name
    awaiting := s.ret.awaiting.map fun t => (t.name, t.activation)
    stagingFilling := !s.staging.isEmpty
    records := s.stay.entries.length
    ownRecords := s.stay.entries.countP fun e => ownRecord e.record s.own
    unannounced := s.stay.entries.countP StayEntry.unannounced
    ticket := s.ret.ticket
    flight := s.permits.current.map fun x =>
      { state := x.1.state, id := x.1.id, serial := x.1.serial, key := x.1.key, attempts := x.2.attempts }
    claims := s.permits.claims.length
    activeRanges := s.ret.blockList.countP rangeActive
    setInForce := s.ret.box.denominations
    waitingSet := s.cash.waitingSet
    capacity := s.cash.capacity
    box := s.ret.box
    band := s.cash.band
    door := s.ret.door
    auth := s.cash.auth
    snapshotHeld := s.ret.snapshot.isSome
    round := s.ret.round.map fun r => (r.id, r.isOpen)
    service := s.faults.service
    activeFaults := s.faults.table.countP FaultEntry.active
    deferredReports := s.faults.table.countP fun e => e.deferred.isSome
    inbox := if s.isSink then some (s.faults.inbox.length, s.faults.overflow) else none
    distance := s.chan.distance
    freshNeighbours := s.chan.neighbours.countP fun e => decide (e.state = .fresh) }

/-- R169. -/
def reqQueryStatus (s : State) : State × Answer := (s, .done (.status s.queryReport))

/-! ### The fault unit's requests (R150, R159) -/

/-- R150: BAD REQUEST to FAULT RAISE or FAULT CLEAR; each response also gives the service state (log 49). -/
def State.badFault (s : State) : Answer := { result := .badRequest, body := .standing s.faults.service }

/-- R150. -/
def reqFaultRaise (kind detail : Nat) (s : State) : State × Answer :=
  match hostKind kind with
  | none => (s, s.badFault)
  | some k =>
    if wordSpan ≤ detail then (s, s.badFault)
    else
      let s' := s.raise k detail
      (s', .done (.raised (s'.faultEntry k).occurrences s'.faults.service))

/-- R150. -/
def reqFaultClear (kind : Nat) (s : State) : State × Answer :=
  match hostKind kind with
  | none => (s, s.badFault)
  | some k =>
    let s' := s.clear k
    (s', .done (.cleared (!s.faultActive k) s'.faults.service))

/-- R159: an item of FAULT READ TABLE. -/
def faultItem (e : FaultEntry) : FaultItem :=
  { active := e.active, raisedAt := e.raisedAt, clearedAt := e.clearedAt, occurrences := e.occurrences, detail := e.detail
    lastReported := e.lastReported, holdsDeferred := e.deferred.isSome }

/-- R159. -/
def reqFaultRead (selector : FaultSelector) (s : State) : State × Answer :=
  match selector with
  | .table => (s, .done (.faultTable (s.faults.table.map faultItem)))
  | .inbox =>
    if s.isSink then
      (s.setFaults { s.faults with inbox := s.faults.inbox.drop 4, overflow := false },
        .done (.inbox (s.faults.inbox.take 4) (s.faults.inbox.length - 4) s.faults.overflow))
    else (s, .refuse .notSink)

/-! ### NEIGHBOURS READ (R23) -/

/-- R23: the items of the entries not UNHEARD, in order of station number counting from n. -/
def neighbourItems (n : Nat) : List Neighbour → List NeighbourItem
  | [] => []
  | e :: es =>
    if e.state = .unheard then neighbourItems (n + 1) es
    else
      { station := n, state := e.state, direct := e.direct, lastHeard := e.lastHeard, disputed := e.disputed
        reported := e.reported } :: neighbourItems (n + 1) es

/-- R23. -/
def reqNeighboursRead (s : State) : State × Answer :=
  match s.link.running with
  | none => (s, { result := .notStarted, body := .empty })
  | some r =>
    (s, .done (.neighbours
      { number := r.number, mode := r.config.mode, hopLimit := r.config.hopLimit, distance := s.chan.distance
        items := if r.number = 0 then [] else neighbourItems 1 s.chan.neighbours }))

/-! ### The request handed to its block (R163) -/

/-- A block's answer formed at once. -/
def atOnce (x : State × Answer) : State × Option Answer := (x.1, some x.2)

/-- R163: the request handed to its owning block; a QUOTE or SELL whose walk begins is answered at the walk's end. A good
RESTART acts at its arrival (R172) and is never held. -/
def State.handle (s : State) : Request → State × Option Answer
  | .start r => atOnce (reqStart r s)
  | .restart => (s.warmStart .request, none)
  | .queryStatus => atOnce (reqQueryStatus s)
  | .setTime t => atOnce (reqSetTime t s)
  | .tariffLoad o c => atOnce (reqTariffLoad o c s)
  | .tariffCommit => atOnce (reqTariffCommit s)
  | .tariffDiscard => atOnce (reqTariffDiscard s)
  | .quote r => reqQuote r s
  | .sell r => reqSell r s
  | .lookup k => atOnce (reqLookup k s)
  | .permitCheck p k => atOnce (reqPermitCheck p k s)
  | .claimVisitorDay p k => atOnce (reqClaimVisitorDay p k s)
  | .blockListLoad rs => atOnce (reqBlockListLoad rs s)
  | .roundOpen k c => atOnce (reqRoundOpen k c s)
  | .roundClose => atOnce (reqRoundClose s)
  | .roundRead => atOnce (reqRoundRead s)
  | .snapshot => atOnce (reqSnapshot s)
  | .snapshotRead => atOnce (reqSnapshotRead s)
  | .faultRaise k d => atOnce (reqFaultRaise k d s)
  | .faultClear k => atOnce (reqFaultClear k s)
  | .faultRead sel => atOnce (reqFaultRead sel s)
  | .neighboursRead => atOnce (reqNeighboursRead s)

/-- R163: the four requests taken before START: codes 1 to 4. -/
def takenBeforeStart (code : Nat) : Bool := decide (1 ≤ code ∧ code ≤ 4)

/-- R163: what a frame whose check and length are right comes to: an unknown code is BAD REQUEST, a request that needs START
is NOT STARTED, a body malformed for its code is BAD REQUEST, and the rest go to their blocks. A second START with a body so
malformed is therefore BAD REQUEST (log 70). -/
def State.examineContent (s : State) (c : FrameContent) : State × Option Answer :=
  match c with
  | .unknown _ => (s, some .bad)
  | .malformed code =>
    if !s.started && !takenBeforeStart code then (s, some { result := .notStarted, body := .empty }) else (s, some .bad)
  | .request r =>
    if !s.started && !takenBeforeStart (requestCode r) then (s, some { result := .notStarted, body := .empty })
    else s.handle r

/-- R163: a request frame examined. -/
def State.examine (s : State) (f : LinkFrame) : State × Option Answer :=
  if f.checkAgrees && f.lengthAgrees then s.examineContent f.content
  else (s, some { result := .badFrame, body := .empty })

/-- R163, R165: the response formed becomes the waiting response; its overrun flag is filled when it is placed. -/
def State.respond (s : State) (code : Nat) (a : Answer) : State :=
  s.setLink { s.link with waiting := some { code, result := a.result, body := a.body, overrun := false } }

/-- R162: the outbound mailbox holds a response. -/
def MachineLink.responseOut (l : MachineLink) : Bool := match l.outbound with | some (.response _) => true | _ => false

/-- R163: no request is being worked on and no response waits or is unread. -/
def State.linkIdle (s : State) : Bool := s.link.waiting.isNone && !s.link.responseOut && s.walk.isNone

/-- R163: the request held in the inbound mailbox is taken when no response is waiting or held. -/
def State.takeRequest (s : State) : State :=
  match s.link.inbound with
  | none => s
  | some f =>
    if s.linkIdle then
      match s.examine f with
      | (s', none) => s'
      | (s', some a) => s'.respond (frameCode f.content) a
    else s

/-! ### The inbound mailbox (R162) -/

/-- R153: a request arrival: the liveness timer restarts, and an arrival that ends a silence clears HOST SILENT. -/
def State.arrival (s : State) : State :=
  match s.link.running with
  | none => s
  | some r =>
    let s' := s.startLiveness r.config.liveness
    if s.faults.quiet = 2 then s'.clear .hostSilent else s'

/-- R172: a RESTART whose check and length are right. -/
def goodRestart (f : LinkFrame) : Bool := f.checkAgrees && f.lengthAgrees && decide (f.content = .request .restart)

/-- R162, R172: the host writes a request frame. What its arrival does, the clear of HOST SILENT and its report among it
(R153), comes before the start that a RESTART takes, and before a request is taken, which is the model's choice (log 56). -/
def State.writeFrame (s : State) (f : LinkFrame) : State :=
  if s.supply.resetHeld then s
  else
    let s' := s.arrival
    if s'.link.inbound.isSome then s'.setLink { s'.link with overrun := true }
    else if goodRestart f then s'.warmStart .request
    else (s'.setLink { s'.link with inbound := some f }).takeRequest

/-- A request frame whose check and length are right (log 1). -/
def soundFrame (r : Request) : LinkFrame := { lengthAgrees := true, checkAgrees := true, content := .request r }

/-! ### The outbound mailbox (R164) -/

/-- R164: the host reads the outbound mailbox; a read that takes the whole frame empties it, it is filled again at once, and
a request held behind the response read is taken. -/
def State.readMailbox (s : State) (whole : Bool) : State :=
  if s.link.outbound.isNone || !whole then s
  else (s.setLink { s.link with outbound := none }.refill).takeRequest

/-! ### The end of a walk (R57) -/

/-- R57, R77, R83: the walk in progress ends and the request it served is answered. -/
def State.endWalk (s : State) : State :=
  match s.walk with
  | none => s
  | some w =>
    match (s.setWalk none).concludeWalk w with
    | (s', a) => s'.respond (if w.sale.isSome then 9 else 8) a

/-- The end of a step while main power is present: what the step did, and the outbound mailbox filled (logs 3, 31). -/
def State.whilePowered (s : State) (f : State → State) : State := if s.supply.power then (f s).settle else s

end Sys2Proof.Machine
end

