-- ==== Sys2Proof/Machine/Requests.lean ====
section
/-! DEFINITION. The meanings of the host's commands: the 22 requests, each the write of a sound frame that carries it
(log 1), and the two transfers of the machine link. -/

namespace Sys2Proof.Machine

/-- The outcome every meaning answers with. -/
abbrev StepOutcome := Host.Outcome State Fault Refusal

/-- R167, R168: the host writes START. -/
def execStart (r : StartRequest) (s : State) : StepOutcome :=
  .next (s.whilePowered fun t => t.writeFrame (soundFrame (.start r)))

/-- R172: the host writes RESTART. -/
def execRestart (s : State) : StepOutcome :=
  .next (s.whilePowered fun t => t.writeFrame (soundFrame .restart))

/-- R169: the host writes QUERY STATUS. -/
def execQueryStatus (s : State) : StepOutcome :=
  .next (s.whilePowered fun t => t.writeFrame (soundFrame .queryStatus))

/-- R36: the host writes SET TIME. -/
def execSetTime (time : Nat) (s : State) : StepOutcome :=
  .next (s.whilePowered fun t => t.writeFrame (soundFrame (.setTime time)))

/-- R46: the host writes TARIFF LOAD. -/
def execTariffLoad (offset : Nat) (chunk : List Byte) (s : State) : StepOutcome :=
  .next (s.whilePowered fun t => t.writeFrame (soundFrame (.tariffLoad offset chunk)))

/-- R47 to R49: the host writes TARIFF COMMIT. -/
def execTariffCommit (s : State) : StepOutcome :=
  .next (s.whilePowered fun t => t.writeFrame (soundFrame .tariffCommit))

/-- R50: the host writes TARIFF DISCARD. -/
def execTariffDiscard (s : State) : StepOutcome :=
  .next (s.whilePowered fun t => t.writeFrame (soundFrame .tariffDiscard))

/-- R77: the host writes QUOTE. -/
def execQuote (r : QuoteRequest) (s : State) : StepOutcome :=
  .next (s.whilePowered fun t => t.writeFrame (soundFrame (.quote r)))

/-- R83: the host writes SELL. -/
def execSell (r : SellRequest) (s : State) : StepOutcome :=
  .next (s.whilePowered fun t => t.writeFrame (soundFrame (.sell r)))

/-- R100: the host writes LOOKUP. -/
def execLookup (key : Nat) (s : State) : StepOutcome :=
  .next (s.whilePowered fun t => t.writeFrame (soundFrame (.lookup key)))

/-- R104: the host writes PERMIT CHECK. -/
def execPermitCheck (permit : PermitRecord) (key : Nat) (s : State) : StepOutcome :=
  .next (s.whilePowered fun t => t.writeFrame (soundFrame (.permitCheck permit key)))

/-- R113: the host writes CLAIM VISITOR DAY. -/
def execClaimVisitorDay (permit : PermitRecord) (key : Nat) (s : State) : StepOutcome :=
  .next (s.whilePowered fun t => t.writeFrame (soundFrame (.claimVisitorDay permit key)))

/-- R108: the host writes BLOCK LIST LOAD. -/
def execBlockListLoad (ranges : List BlockRange) (s : State) : StepOutcome :=
  .next (s.whilePowered fun t => t.writeFrame (soundFrame (.blockListLoad ranges)))

/-- R141: the host writes ROUND OPEN. -/
def execRoundOpen (collectorKey collectorId : Nat) (s : State) : StepOutcome :=
  .next (s.whilePowered fun t => t.writeFrame (soundFrame (.roundOpen collectorKey collectorId)))

/-- R144: the host writes ROUND CLOSE. -/
def execRoundClose (s : State) : StepOutcome :=
  .next (s.whilePowered fun t => t.writeFrame (soundFrame .roundClose))

/-- R145: the host writes ROUND READ. -/
def execRoundRead (s : State) : StepOutcome :=
  .next (s.whilePowered fun t => t.writeFrame (soundFrame .roundRead))

/-- R138: the host writes SNAPSHOT. -/
def execSnapshot (s : State) : StepOutcome :=
  .next (s.whilePowered fun t => t.writeFrame (soundFrame .snapshot))

/-- R139: the host writes SNAPSHOT READ. -/
def execSnapshotRead (s : State) : StepOutcome :=
  .next (s.whilePowered fun t => t.writeFrame (soundFrame .snapshotRead))

/-- R150: the host writes FAULT RAISE. -/
def execFaultRaise (kind detail : Nat) (s : State) : StepOutcome :=
  .next (s.whilePowered fun t => t.writeFrame (soundFrame (.faultRaise kind detail)))

/-- R150: the host writes FAULT CLEAR. -/
def execFaultClear (kind : Nat) (s : State) : StepOutcome :=
  .next (s.whilePowered fun t => t.writeFrame (soundFrame (.faultClear kind)))

/-- R159: the host writes FAULT READ. -/
def execFaultRead (selector : FaultSelector) (s : State) : StepOutcome :=
  .next (s.whilePowered fun t => t.writeFrame (soundFrame (.faultRead selector)))

/-- R23: the host writes NEIGHBOURS READ. -/
def execNeighboursRead (s : State) : StepOutcome :=
  .next (s.whilePowered fun t => t.writeFrame (soundFrame .neighboursRead))

/-- R162, R174: the host writes the bytes of a request frame, whose check the part computes. -/
def execMailboxWrite (frame : WrittenFrame) (s : State) : StepOutcome :=
  .next (s.whilePowered fun t => t.writeFrame (heldFrame frame))

/-- R164: the host reads the outbound mailbox, taking the whole frame or not. -/
def execMailboxRead (whole : Bool) (s : State) : StepOutcome := .next (s.whilePowered fun t => t.readMailbox whole)

end Sys2Proof.Machine
end

