-- ==== Sys2Proof/Machine/Frames.lean ====
section
/-! DEFINITION. The meanings of the commands that are frames arriving on the zone channel. -/

namespace Sys2Proof.Machine

/-- R17 to R19: arrival of a STATUS frame, which is never relayed (1.5). -/
def execStatusFrame (h : RxHeader) (body : StatusBody) (s : State) : StepOutcome :=
  .next (s.whilePowered fun t =>
    t.receive h { classOk := decide (h.cls = .record), length := 12, countOk := true } true fun _ u =>
      u.onStatus h.origin body)

/-- R95: arrival of a STAY frame, of a new sale or extension (RECORD) or of a re-announcement (BULK). -/
def execStayFrame (h : RxHeader) (records : List StayRecord) (s : State) : StepOutcome :=
  .next (s.whilePowered fun t =>
    t.receiveRelayed h (1 + 48 * records.length) (decide (1 ≤ records.length ∧ records.length ≤ 4))
      (.stay records (decide (h.cls = .bulk))) fun u => u.mergeRecords records)

/-- R119: arrival of a CLAIM OPEN frame. -/
def execClaimOpenFrame (h : RxHeader) (body : ClaimOpenBody) (s : State) : StepOutcome :=
  .next (s.whilePowered fun t =>
    t.receiveRelayed h 17 true (.claimOpen body) fun u => u.onClaimOpen (openFrameId h.origin h.seq body) body)

/-- R120: arrival of a CLAIM FIRM frame. -/
def execClaimFirmFrame (h : RxHeader) (body : ClaimFirmBody) (s : State) : StepOutcome :=
  .next (s.whilePowered fun t =>
    t.receiveRelayed h 17 true (.claimFirm body) fun u => u.onClaimFirm { origin := h.origin, seq := body.idSeq } body)

/-- R120: arrival of a CLAIM RELEASE frame. -/
def execClaimReleaseFrame (h : RxHeader) (body : ClaimReleaseBody) (s : State) : StepOutcome :=
  .next (s.whilePowered fun t =>
    t.receiveRelayed h 17 true (.claimRelease body) fun u => u.onClaimRelease { origin := h.origin, seq := body.idSeq } body)

/-- R116: arrival of an OBJECT HELD frame. -/
def execObjectHeldFrame (h : RxHeader) (body : ObjectOneBody) (s : State) : StepOutcome :=
  .next (s.whilePowered fun t => t.receiveRelayed h 18 true (.objectHeld body) fun u => u.onObjectHeld body)

/-- R116: arrival of an OBJECT COUNT frame. -/
def execObjectCountFrame (h : RxHeader) (body : ObjectCountBody) (s : State) : StepOutcome :=
  .next (s.whilePowered fun t =>
    t.receiveRelayed h (9 + 9 * body.carried.length) (decide (1 ≤ body.carried.length ∧ body.carried.length ≤ 4))
      (.objectCount body) fun u => u.onObjectCount body)

/-- R117: arrival of an OBJECT CONCURRENT frame. -/
def execObjectConcurrentFrame (h : RxHeader) (body : ObjectOneBody) (s : State) : StepOutcome :=
  .next (s.whilePowered fun t => t.receiveRelayed h 18 true (.objectConcurrent body) fun u => u.onObjectConcurrent body)

/-- R142: arrival of a ROUND OPEN frame. -/
def execRoundOpenFrame (h : RxHeader) (body : RoundOpenBody) (s : State) : StepOutcome :=
  .next (s.whilePowered fun t =>
    t.receiveRelayed h 22 true (.roundOpen body) fun u => u.onRound body.id (.opened body.collector))

/-- R142: arrival of a ROUND ENTRY frame. -/
def execRoundEntryFrame (h : RxHeader) (body : RoundEntryBody) (s : State) : StepOutcome :=
  .next (s.whilePowered fun t =>
    t.receiveRelayed h 22 true (.roundEntry body) fun u => u.onRound body.id (.entry body.collector body.entry))

/-- R142: arrival of a ROUND CLOSE frame. -/
def execRoundCloseFrame (h : RxHeader) (body : RoundCloseBody) (s : State) : StepOutcome :=
  .next (s.whilePowered fun t => t.receiveRelayed h 22 true (.roundClose body) fun u => u.onRound body.id .closed)

/-- R2, R11, R157, R158: arrival of a FAULT frame; its class is held against the one that its transition and kind give. -/
def execFaultFrame (h : RxHeader) (body : FaultBody) (s : State) : StepOutcome :=
  .next (s.whilePowered fun t =>
    t.receive h { classOk := decide (h.cls = faultClass body.report), length := 15, countOk := true } false fun _ u =>
      u.onFault h body)

end Sys2Proof.Machine
end

