-- ==== Sys2Proof/Machine/Events.lean ====
section
/-! DEFINITION. The meanings of the commands that are events: of the channel, of the timers, of the clock's oscillator, of
the lines and of main power. -/

namespace Sys2Proof.Machine

/-- R4: carrier of another source ends. -/
def execCarrierEnd (s : State) : StepOutcome := .next (s.whilePowered fun t => t.endCarrier)

/-- R4: the channel has stayed idle for the gap, and a contention window begins. -/
def execChannelGap (s : State) : StepOutcome := .next (s.whilePowered fun t => t.endGap)

/-- R5: a slot of the contention window begins on an idle channel (log 29). -/
def execContentionSlot (slot : Nat) (s : State) : StepOutcome := .next (s.whilePowered fun t => t.slotBegins slot)

/-- R4, R6: a window ends with no carrier sensed. -/
def execIdleWindow (s : State) : StepOutcome := .next (s.whilePowered fun t => t.idleWindow)

/-- R4: carrier of another source is sensed. -/
def execCarrierSensed (s : State) : StepOutcome := .next (s.whilePowered fun t => t.senseCarrier)

/-- R7: the station's own transmission ends. -/
def execTransmitCompletion (s : State) : StepOutcome := .next (s.whilePowered fun t => t.completeSending)

/-- R17: the status timer expires. -/
def execStatusTimerExpiry (s : State) : StepOutcome := .next (s.whilePowered fun t => t.statusExpiry)

/-- R21: a neighbour's direct timer expires. -/
def execDirectTimerExpiry (station : Nat) (s : State) : StepOutcome := .next (s.whilePowered fun t => t.directExpiry station)

/-- R21: a neighbour's silence timer expires. -/
def execSilenceTimerExpiry (station : Nat) (s : State) : StepOutcome := .next (s.whilePowered fun t => t.silenceExpiry station)

/-- R11: three status periods have passed since the last frame bearing the own number. -/
def execDuplicateStationExpiry (s : State) : StepOutcome := .next (s.whilePowered fun t => t.duplicateOver)

/-- R57: the walk in progress ends. -/
def execWalkEnd (s : State) : StepOutcome := .next (s.whilePowered fun t => t.endWalk)

/-- R115: the objection window expires. -/
def execObjectionWindowExpiry (s : State) : StepOutcome := .next (s.whilePowered fun t => t.windowOver)

/-- R117: the waiting period expires. -/
def execWaitingPeriodExpiry (s : State) : StepOutcome := .next (s.whilePowered fun t => t.waitOver)

/-- R111: a PROVISIONAL claim's ageing timer expires. -/
def execAgeingTimerExpiry (claim : ClaimId) (s : State) : StepOutcome := .next (s.whilePowered fun t => t.ageOut claim)

/-- R131: the authorization timer expires. -/
def execAuthorizationTimerExpiry (s : State) : StepOutcome := .next (s.whilePowered fun t => t.authorizationOver)

/-- R133: the door timer expires. -/
def execDoorTimerExpiry (s : State) : StepOutcome := .next (s.whilePowered fun t => t.doorTimerOver)

/-- R153: the liveness timer expires. -/
def execLivenessTimerExpiry (s : State) : StepOutcome := .next (s.whilePowered fun t => t.livenessExpiry)

/-- R154: a refresh timer expires. -/
def execRefreshTimerExpiry (kind : FaultKind) (s : State) : StepOutcome := .next (s.whilePowered fun t => t.refreshExpiry kind)

/-- R26, R171: the oscillator counts a second; without main power the backup clock does. -/
def execSecondCount (s : State) : StepOutcome :=
  .next (if s.supply.power then s.countSecond.settle else s.backupCount 1)

/-- R132: the DOOR line reports an opening. -/
def execDoorOpening (s : State) : StepOutcome := .next (s.doorLine true).settle

/-- R133: the DOOR line reports a closing. -/
def execDoorClosing (s : State) : StepOutcome := .next (s.doorLine false).settle

/-- R134: the BOX line reports a removal. -/
def execBoxRemoval (s : State) : StepOutcome := .next (s.boxLine true).settle

/-- R135: the BOX line reports an insertion. -/
def execBoxInsertion (s : State) : StepOutcome := .next (s.boxLine false).settle

/-- R171: main power returns. -/
def execPowerUp (outage : Nat) (spoiled : Bool) (s : State) : StepOutcome := .next (s.powerUp outage spoiled).settle

/-- R172: the reset line is asserted. -/
def execResetLine (s : State) : StepOutcome := .next s.assertReset.settle

/-- R172: the reset line is released. -/
def execResetLineRelease (s : State) : StepOutcome := .next s.releaseReset.settle

/-- R171: main power is lost. -/
def execMainPowerLoss (s : State) : StepOutcome := .next s.powerLoss

end Sys2Proof.Machine
end

