-- ==== Sys2Proof/Machine/Dispatch.lean ====
section
/-! DEFINITION. One arm for each command. -/

namespace Sys2Proof.Machine

def exec (i : Instr) (s : State) : Host.Outcome State Fault Refusal :=
  match i with
  | .start r => Sys2Proof.Machine.execStart r s
  | .restart => Sys2Proof.Machine.execRestart s
  | .queryStatus => Sys2Proof.Machine.execQueryStatus s
  | .setTime time => Sys2Proof.Machine.execSetTime time s
  | .tariffLoad offset chunk => Sys2Proof.Machine.execTariffLoad offset chunk s
  | .tariffCommit => Sys2Proof.Machine.execTariffCommit s
  | .tariffDiscard => Sys2Proof.Machine.execTariffDiscard s
  | .quote r => Sys2Proof.Machine.execQuote r s
  | .sell r => Sys2Proof.Machine.execSell r s
  | .lookup key => Sys2Proof.Machine.execLookup key s
  | .permitCheck permit key => Sys2Proof.Machine.execPermitCheck permit key s
  | .claimVisitorDay permit key => Sys2Proof.Machine.execClaimVisitorDay permit key s
  | .blockListLoad ranges => Sys2Proof.Machine.execBlockListLoad ranges s
  | .roundOpen collectorKey collectorId => Sys2Proof.Machine.execRoundOpen collectorKey collectorId s
  | .roundClose => Sys2Proof.Machine.execRoundClose s
  | .roundRead => Sys2Proof.Machine.execRoundRead s
  | .snapshot => Sys2Proof.Machine.execSnapshot s
  | .snapshotRead => Sys2Proof.Machine.execSnapshotRead s
  | .faultRaise kind detail => Sys2Proof.Machine.execFaultRaise kind detail s
  | .faultClear kind => Sys2Proof.Machine.execFaultClear kind s
  | .faultRead selector => Sys2Proof.Machine.execFaultRead selector s
  | .neighboursRead => Sys2Proof.Machine.execNeighboursRead s
  | .mailboxWrite frame => Sys2Proof.Machine.execMailboxWrite frame s
  | .mailboxRead whole => Sys2Proof.Machine.execMailboxRead whole s
  | .statusFrame h body => Sys2Proof.Machine.execStatusFrame h body s
  | .stayFrame h records => Sys2Proof.Machine.execStayFrame h records s
  | .claimOpenFrame h body => Sys2Proof.Machine.execClaimOpenFrame h body s
  | .claimFirmFrame h body => Sys2Proof.Machine.execClaimFirmFrame h body s
  | .claimReleaseFrame h body => Sys2Proof.Machine.execClaimReleaseFrame h body s
  | .objectHeldFrame h body => Sys2Proof.Machine.execObjectHeldFrame h body s
  | .objectCountFrame h body => Sys2Proof.Machine.execObjectCountFrame h body s
  | .objectConcurrentFrame h body => Sys2Proof.Machine.execObjectConcurrentFrame h body s
  | .roundOpenFrame h body => Sys2Proof.Machine.execRoundOpenFrame h body s
  | .roundEntryFrame h body => Sys2Proof.Machine.execRoundEntryFrame h body s
  | .roundCloseFrame h body => Sys2Proof.Machine.execRoundCloseFrame h body s
  | .faultFrame h body => Sys2Proof.Machine.execFaultFrame h body s
  | .carrierEnd => Sys2Proof.Machine.execCarrierEnd s
  | .channelGap => Sys2Proof.Machine.execChannelGap s
  | .contentionSlot slot => Sys2Proof.Machine.execContentionSlot slot s
  | .idleWindow => Sys2Proof.Machine.execIdleWindow s
  | .transmitCompletion => Sys2Proof.Machine.execTransmitCompletion s
  | .statusTimerExpiry => Sys2Proof.Machine.execStatusTimerExpiry s
  | .directTimerExpiry station => Sys2Proof.Machine.execDirectTimerExpiry station s
  | .silenceTimerExpiry station => Sys2Proof.Machine.execSilenceTimerExpiry station s
  | .duplicateStationExpiry => Sys2Proof.Machine.execDuplicateStationExpiry s
  | .secondCount => Sys2Proof.Machine.execSecondCount s
  | .walkEnd => Sys2Proof.Machine.execWalkEnd s
  | .objectionWindowExpiry => Sys2Proof.Machine.execObjectionWindowExpiry s
  | .waitingPeriodExpiry => Sys2Proof.Machine.execWaitingPeriodExpiry s
  | .ageingTimerExpiry claim => Sys2Proof.Machine.execAgeingTimerExpiry claim s
  | .doorOpening => Sys2Proof.Machine.execDoorOpening s
  | .doorClosing => Sys2Proof.Machine.execDoorClosing s
  | .boxRemoval => Sys2Proof.Machine.execBoxRemoval s
  | .boxInsertion => Sys2Proof.Machine.execBoxInsertion s
  | .authorizationTimerExpiry => Sys2Proof.Machine.execAuthorizationTimerExpiry s
  | .doorTimerExpiry => Sys2Proof.Machine.execDoorTimerExpiry s
  | .livenessTimerExpiry => Sys2Proof.Machine.execLivenessTimerExpiry s
  | .refreshTimerExpiry kind => Sys2Proof.Machine.execRefreshTimerExpiry kind s
  | .powerUp outage spoiled => Sys2Proof.Machine.execPowerUp outage spoiled s
  | .resetLine => Sys2Proof.Machine.execResetLine s
  | .carrierSensed => Sys2Proof.Machine.execCarrierSensed s
  | .resetLineRelease => Sys2Proof.Machine.execResetLineRelease s
  | .mainPowerLoss => Sys2Proof.Machine.execMainPowerLoss s

end Sys2Proof.Machine
end

