-- ==== Sys2Proof/Machine/Step.lean ====
section
/-! DEFINITION. The step of the block: the command at the front of the queue runs on the state with the queue's rest. -/

namespace Sys2Proof.Machine

/-- The waiting commands replaced. -/
def State.setPending (s : State) (cs : List Instr) : State := { s with pending := cs }

/-- One step; with no command waiting the block idles (log 6). -/
def step (s : State) : Host.Outcome State Fault Refusal :=
  match s.pending with
  | [] => .next s
  | c :: cs => exec c (s.setPending cs)

/-- A command put at the front of the queue. -/
def State.withFetchWord (s : State) (nbits w : Nat) : State :=
  match Sys2Proof.decodeTableWord nbits w with
  | some c => s.setPending (c :: s.pending)
  | none => s

end Sys2Proof.Machine
end

