-- ==== Sys2Proof/Machine/Wire.lean ====
section
/-! DEFINITION. The layouts of chapter 10 read the other way: the frame command that the bytes of a zone frame spell; and the
link's outbound frames. -/

namespace Sys2Proof.Machine

/-! ### Codes read (10.1, 10.2) -/

/-- The class of a code. -/
def classOf (n : Nat) : FrameClass := match n with | 0 => .urgent | 1 => .claim | 2 => .record | _ => .bulk

/-- The service state of a code. -/
def serviceOf (n : Nat) : ServiceState :=
  match n with | 0 => .inService | 1 => .degraded | 2 => .outOfService | _ => .hold

/-- The fill band of a code. -/
def fillOf (n : Nat) : Option FillBand :=
  match n with | 0 => some .normal | 1 => some .nearFull | 2 => some .full | _ => none

/-- The severity of a code. -/
def severityOfCode (n : Nat) : Option Severity :=
  match n with
  | 0 => some .info | 1 => some .warning | 2 => some .degradedCash | 3 => some .degradedCard | 4 => some .service
  | _ => none

/-- The transition of a code. -/
def transitionOf (n : Nat) : Option Transition :=
  match n with | 0 => some .raised | 1 => some .cleared | 2 => some .refresh | _ => none

/-! ### The carried stay record (10.3) -/

/-- 10.3: a permit class from its two bits. -/
def permitClassOfBits (n : Nat) : PermitClass := (permitClassOf (n % 4)).getD .resident

/-- 10.3: the record of 48 bytes. -/
def readRecord (bs : List Byte) : StayRecord :=
  let first := field bs 0 1
  let extensions := field bs 18 2 / 2 % 16
  let last := field bs 43 1
  { id := { origin := first / 8, number := field bs 1 3, start := field bs 4 4 }
    key := field bs 8 4
    kind := if hasBit first 4 then .visitorDay else .paid
    expiry := field bs 12 4
    minutes := field bs 18 2 / 32
    expiryDay := field bs 16 2
    dayMinutes := field bs 20 2 / 32
    dayAccrual := field bs 22 4
    dayGross := field bs 26 2
    grossTotal := field bs 28 4
    paidTotal := field bs 32 4
    tariff := { id := field bs 36 2, version := field bs 38 2 }
    maxStay := field bs 40 3 / 8192
    noReturn := field bs 40 3 / 4 % 2048
    extensions
    lastBy := if extensions = 0 then none else some (last / 8)
    permit := if hasBit first 2 then some { cls := permitClassOfBits (last / 2), serial := field bs 44 4 } else none }

/-! ### Zone frames heard (10.1, 10.2) -/

/-- 10.2: a carried claim of 9 bytes, its origin and open time at the top of the first 3 (log 58). -/
def readCarried (day : Nat) (bs : List Byte) : CarriedClaim :=
  { id := { origin := field bs 0 3 / 524288, seq := field bs 3 2 }, key := field bs 5 4
    openTime := day * daySeconds + field bs 0 3 / 4 % 131072 }

/-- 10.1: the header of a whole frame's bytes; `assigned` tells whether every enumeration of the body holds an assigned
code. -/
def readHeader (bs : List Byte) (assigned : Bool) : RxHeader :=
  let first := field bs 0 2
  { zone := first / 16, sender := field bs 2 1 / 8, origin := field bs 3 1 / 8, seq := field bs 4 2, hop := first / 4 % 4
    relay := hasBit first 2, cls := classOf (field bs 6 1 / 2 % 4), time := field bs 8 4, epoch := field bs 7 1
    timeSet := hasBit first 1, bodyLength := field bs 12 1, codesAssigned := assigned, octets := bs }

/-- The header that a station hears in a frame sent. -/
def heardHeader (f : AirFrame) : RxHeader :=
  { zone := f.zone, sender := f.sender, origin := f.origin, seq := f.seq, hop := f.hop, relay := f.relay, cls := f.cls
    time := f.time, epoch := f.epoch, timeSet := f.timeSet, bodyLength := (bodyBytes f.body).length, codesAssigned := true
    octets := frameBytes f }

/-- 10.2: a STATUS body; none where its fill band is unassigned. -/
def readStatus (b : List Byte) : Option StatusBody :=
  let first := field b 0 1
  (fillOf (first / 16 % 4)).map fun band =>
    { service := serviceOf (first / 64), distance := field b 1 1, band
      tariff := if hasBit first 8 then some { id := field b 3 2, version := field b 5 2 } else none
      round := if hasBit first 4 then some { time := field b 7 4, station := field b 11 1 } else none
      period := field b 2 1 }

/-- 10.2: a FAULT body with its origin; none where a code is unassigned. -/
def readFault (origin : Nat) (b : List Byte) : Option FaultBody :=
  let second := field b 1 1
  match allFaultKinds[field b 0 1]?, transitionOf (second / 64), severityOfCode (second / 8 % 8) with
  | some kind, some transition, some severity =>
    some {
      report := {
        origin, kind, severity, transition, eventTime := field b 2 4, eventEpoch := field b 6 1
        eventSet := hasBit second 4, raisedAt := field b 7 4, detail := field b 11 2, occurrences := field b 13 1 }
      distance := field b 14 1 }
  | _, _, _ => none

/-- Pieces of a fixed size, so many of them. -/
def readPieces {α : Type} (size : Nat) (make : List Byte → α) : Nat → List Byte → List α
  | 0, _ => []
  | n + 1, bs => make (bs.take size) :: readPieces size make n (bs.drop size)

/-- A ROUND body's collector id, absent when 0. -/
def collectorOf (n : Nat) : Option Nat := if n = 0 then none else some n

/-- A ROUND body's id. -/
def readRoundId (b : List Byte) : RoundId := { time := field b 0 4, station := field b 4 1 }

/-- A ROUND body's entry. -/
def readEntry (b : List Byte) : RoundEntry :=
  { station := field b 9 1, lastAt := field b 10 4, items := field b 14 4, value := field b 18 4 }

/-- An OBJECT body that carries one claim. -/
def readObjectOne (b : List Byte) : ObjectOneBody :=
  let day := field b 7 2
  { target := { origin := field b 0 1 / 8, seq := field b 1 2 }, serial := field b 3 4, day
    carried := readCarried day (b.drop 9) }

/-- 10.1, 10.2, R11: the frame command that the bytes heard on the channel spell, the check's two bytes last. None where
the bytes are not those of a header, the body length it gives, and a check, or the kind, the sub-kind or a code is
unassigned: such a frame is carrier and nothing more. -/
def readAir (bs : List Byte) : Option Instr :=
  if bs.length ≠ field bs 12 1 + 15 then none
  else
    let h := readHeader bs true
    let b := (beforeCheck bs).drop 13
    match field bs 6 1 / 32, field bs 6 1 / 8 % 4 with
    | 0, 0 => (readStatus b).map (Instr.statusFrame h)
    | 1, 0 => some (.stayFrame h (readPieces 48 readRecord (field b 0 1) (b.drop 1)))
    | 2, 0 => some (.claimOpenFrame h
        { idSeq := field b 0 2, serial := field b 2 4, day := field b 6 2, key := field b 8 4, openTime := field b 12 4
          allowance := field b 16 1 / 32, attempt := field b 16 1 / 8 % 4 })
    | 2, 1 => some (.claimFirmFrame h
        { idSeq := field b 0 2, serial := field b 2 4, day := field b 6 2, key := field b 8 4, openTime := field b 12 4 })
    | 2, 2 => some (.claimReleaseFrame h
        { idSeq := field b 0 2, serial := field b 2 4, day := field b 6 2, key := field b 8 4 })
    | 3, 0 => some (.objectCountFrame h
        { target := { origin := field b 0 1 / 8, seq := field b 1 2 }, serial := field b 3 4, day := field b 7 2
          carried := readPieces 9 (readCarried (field b 7 2)) (field b 0 1 % 8) (b.drop 9) })
    | 3, 1 => if field b 0 1 % 8 = 1 then some (.objectHeldFrame h (readObjectOne b)) else none
    | 3, 2 => if field b 0 1 % 8 = 1 then some (.objectConcurrentFrame h (readObjectOne b)) else none
    | 4, 0 => some (.roundOpenFrame h { id := readRoundId b, collector := collectorOf (field b 5 4) })
    | 4, 1 => some (.roundEntryFrame h
        { id := readRoundId b, collector := collectorOf (field b 5 4), entry := readEntry b })
    | 4, 2 => some (.roundCloseFrame h { id := readRoundId b })
    | 5, 0 => (readFault h.origin b).map (Instr.faultFrame h)
    | _, _ => none

/-! ### Outbound link frames (10.4, 10.5) -/

/-- 10.4: the code of a result. -/
def resultCode : Result → Nat
  | .done => 0 | .pending => 1 | .refused _ => 2 | .badRequest => 3 | .notStarted => 4 | .badFrame => 5

/-- R173: a reason's code, its place in the alphabetical list counting from 1. -/
def reasonCode : Reason → Nat
  | .allowanceUsed => 1 | .alreadyHeld => 2 | .alreadyStarted => 3 | .amountTooSmall => 4 | .badBand => 5
  | .badCapacity => 6 | .badDenominations => 7 | .badDiscount => 8 | .badIdentity => 9 | .badLadderReference => 10
  | .badLimits => 11 | .badMode => 12 | .badOverride => 13 | .badPrice => 14 | .badRange => 15
  | .badThreshold => 16 | .badUnit => 17 | .badWeekdayMap => 18 | .badZone => 19 | .belowMinimum => 20
  | .blocked => 21 | .busy => 22 | .claimInProgress => 23 | .claimListFull => 24 | .closed => 25
  | .coveredByPermit => 26 | .exempt => 27 | .expired => 28 | .extensionLimit => 29 | .hold => 30
  | .imageForm => 31 | .imageIncomplete => 32 | .liveSession => 33 | .maxStay => 34 | .noBoxRoom => 35
  | .noReturn => 36 | .noRound => 37 | .noSnapshot => 38 | .noTariff => 39 | .notExtendable => 40 | .notSink => 41
  | .notVisitorBook => 42 | .notYetValid => 43 | .nothingStaged => 44 | .nothingToBuy => 45 | .outOfService => 46
  | .recordChanged => 47 | .shortPayment => 48 | .tariffBehind => 49 | .tariffMismatch => 50 | .tenderBarred => 51
  | .tenderChanged => 52 | .timeUnset => 53 | .unitStraddlesStep => 54 | .unknownTicket => 55
  | .versionNotNewer => 56 | .visitor => 57 | .wrongVehicle => 58 | .wrongZone => 59 | .zoneBusy => 60

/-- R173: the reason code of a result, 0 when it carries none. -/
def reasonCodeOf : Result → Nat
  | .refused r => reasonCode r
  | _ => 0

/-- 10.5: the code of a clamp reason. -/
def clampCode : ClampReason → Nat
  | .unclamped => 0 | .maxStay => 1 | .closed => 2 | .endOfCharging => 3 | .horizon => 4

/-- 10.5: an identity in 8 bytes. -/
def identityBytes (i : Identity) : List Byte := List.flatten [toBytes 1 i.origin, toBytes 3 i.number, toBytes 4 i.start]

/-- 10.5: a permit record in 16 bytes. -/
def permitBytes (p : PermitRecord) : List Byte :=
  List.flatten [
    toBytes 4 p.serial, toBytes 1 p.classCode, toBytes 2 p.issuingZone, toBytes 2 p.validFrom, toBytes 2 p.validTo,
    toBytes 4 p.boundKey, toBytes 1 (p.allowance.getD 0)]

/-- 10.4: a response frame around its body's bytes. That the result and the reason code take a byte each, and the request code
and the body length the widths they have in a request, is deduced (log 76). -/
def responseBytes (r : Response) (body : List Byte) : List Byte :=
  withCheck (List.flatten [
    toBytes 1 1, toBytes 1 r.code, toBytes 1 (resultCode r.result), toBytes 1 (reasonCodeOf r.result),
    toBytes 1 (bitOf 1 r.overrun), toBytes 2 body.length, body])

/-- 10.4: a notice frame around its body's bytes. That the kind code takes a byte and the body length the 2 of a request is
deduced (log 76). -/
def noticeBytes (n : Notice) (body : List Byte) : List Byte :=
  withCheck (List.flatten [
    toBytes 1 2, toBytes 1 (noticeCode n.body.kind), toBytes 4 n.givenAt, toBytes 2 body.length, body])

/-- 10.4: what a read of an empty outbound mailbox returns. -/
def emptyIndication : List Byte := toBytes 1 0

/-- 10.5: the direction with the amount or duration. -/
def askedBytes : Asked → List Byte
  | .amount a => toBytes 1 0 ++ toBytes 2 a
  | .duration d => toBytes 1 1 ++ toBytes 2 d

/-- 10.5: a walk's result. That a gross at expiry day above 65,535 (log 78) and an expiry above 32 bits (log 80) are sent by
their low bits is the model's choice. -/
def resultBytes (r : WalkResult) : List Byte :=
  List.flatten [
    askedBytes r.asked, toBytes 4 r.start, toBytes 4 r.expiry, toBytes 2 r.bought, toBytes 2 r.minutes,
    toBytes 4 r.gross, toBytes 1 r.discount, toBytes 4 r.price, toBytes 2 r.excess, toBytes 1 (clampCode r.clamp),
    toBytes 2 r.tariff.id, toBytes 2 r.tariff.version, toBytes 2 (r.limits.getD (0, 0)).1,
    toBytes 2 (r.limits.getD (0, 0)).2, toBytes 2 r.expiryDay, toBytes 2 r.dayMinutes, toBytes 4 r.dayAccrual,
    toBytes 2 r.dayGross]

/-- 10.3: the code of a stay record's kind. -/
def stayKindCode : StayKind → Nat
  | .paid => 0 | .visitorDay => 1

/-- 10.5: the body of a SELL answered DONE: the result, then the identity, the kind, the extension count (a byte each, log 50)
and the retire time, of one above 32 bits the low 32 (log 80). -/
def soldBytes (r : WalkResult) (id : Identity) (kind : StayKind) (extensions retire : Nat) : List Byte :=
  List.flatten [
    resultBytes r, identityBytes id, toBytes 1 (stayKindCode kind), toBytes 1 extensions, toBytes 4 retire]

/-- 10.4, 10.5: the bytes of a response body that chapter 10 lays out: an empty one, QUOTE's and SELL's. None for the others,
which it does not lay out (log 34). -/
def respBodyBytes : RespBody → Option (List Byte)
  | .empty => some []
  | .quoted r => some (resultBytes r)
  | .sold r id kind extensions retire => some (soldBytes r id kind extensions retire)
  | _ => none

/-- 10.3: the state byte of a record found by LOOKUP, and the time that goes with it, of one above 32 bits the low 32
(log 80). -/
def stateBytes : LookState → List Byte
  | .live t => toBytes 1 0 ++ toBytes 4 t
  | .inNoReturn t => toBytes 1 1 ++ toBytes 4 t
  | .clear => toBytes 1 2 ++ toBytes 4 0

/-- 10.3: a record in the response to LOOKUP. -/
def foundBytes (x : LookState × StayRecord) : List Byte := stateBytes x.1 ++ recordBytes x.2

/-- 10.4, 10.5: the bytes of a response whose body chapter 10 lays out. -/
def laidOutResponse (r : Response) : Option (List Byte) := (respBodyBytes r.body).map (responseBytes r)

end Sys2Proof.Machine
end

