-- ==== Sys2Proof/Safety.lean ====
section
/-! DEFINITION. What counts as a safe state: the bounds and legal combinations that the spec says hold at all times; and the
words in which claims speak of the mailboxes and of frames heard. -/

namespace Sys2Proof.Machine

/-! ### Invariants -/

/-- R26: zone time and epoch lie in their ranges. -/
def clockInRange (s : State) : Prop := s.ret.clock.time ≤ zoneTimeMax ∧ s.ret.clock.epoch < byteSpan

/-- R45: the staging area is in its canonical form. -/
def stagingInForm (s : State) : Prop := stagingWf s.staging = true

/-- R151: while main power is present the service state is the one that the fault table and the compartment give. -/
def serviceDerived (s : State) : Prop := s.supply.power = true → s.faults.service = s.derivedService

/-- R22: the sink distance of a sink is 0, and that of every other station lies between 1 and 7. -/
def distanceLegal (s : State) : Prop :=
  if s.isSink then s.chan.distance = 0 else 1 ≤ s.chan.distance ∧ s.chan.distance ≤ 7

/-- R8, R20, R82, R106, R109, R147, R153, R158: the most that each table, list and count holds. -/
structure State.Bounded (s : State) : Prop where
  queue : s.chan.queue.length ≤ 16
  neighbours : s.chan.neighbours.length = 30
  records : s.stay.entries.length ≤ 384
  ranges : s.ret.blockList.length = 16
  claims : s.permits.claims.length ≤ 160
  table : s.faults.table.length = 22
  quiet : s.faults.quiet ≤ 2
  inbox : s.faults.inbox.length ≤ 64

/-- R82: the records stand in table order, and no two have the same ticket identity. -/
structure State.StayOrdered (s : State) : Prop where
  order : s.stay.entries.Pairwise fun x y => (tableKey x.record).before (tableKey y.record) = true
  identities : s.stay.entries.Pairwise fun x y => x.record.id ≠ y.record.id

/-- R109: at most one own claim is in flight, and none without what a claim in flight carries. -/
structure State.OneFlight (s : State) : Prop where
  atMost : s.permits.claims.countP Claim.inFlight ≤ 1
  carried : s.permits.flight = none → ∀ c ∈ s.permits.claims, c.inFlight = false

/-- R57, R127: a walk stands as it began, and a cash tender that it serves has the form that R127 asks, and room in the box. -/
structure WalkBegun (s : State) (w : Walk) : Prop where
  begun : w = beginWalk w.table w.start w.asked w.discount w.continued w.sale
  tender : ∀ terms counts, w.sale = some terms → terms.tender = .cash counts →
    counts.length = terms.examined.length ∧ (∀ a, w.asked = .amount a → tenderTotal terms.examined counts = a) ∧
      s.ret.box.items + counts.sum ≤ 5000

/-- R126: the item total is the sum of the counts; the value total is the sum over the set in force of count times value, and
the cash-sales value plus the cash-excess value; with the ranges (R124, R125) and the walk (R127) that keep them so. -/
structure State.BoxBalanced (s : State) : Prop where
  counted : s.ret.box.counts.length = s.ret.box.denominations.length
  items : s.ret.box.items = s.ret.box.counts.sum
  value : s.ret.box.value = tenderTotal s.ret.box.denominations s.ret.box.counts
  accounts : s.ret.box.value = s.ret.box.sales + s.ret.box.excess
  room : s.ret.box.items ≤ 5000
  capacity : ∀ c, s.cash.capacity = some c → c ≤ 5000
  inForce : ∀ d ∈ s.ret.box.denominations, d ≤ 50000
  waiting : ∀ ds, s.cash.waitingSet = some ds → ∀ d ∈ ds, d ≤ 50000
  walk : ∀ w, s.walk = some w → WalkBegun s w

/-- R170: what a start leaves: the station unstarted with the reason recorded, the mailboxes' responses lost, and the working
state of the blocks initial. -/
structure Restarted (t : State) (reason : StartReason) : Prop where
  running : t.link.running = none
  reason : t.link.reason = reason
  inbound : t.link.inbound = none
  waiting : t.link.waiting = none
  overrun : t.link.overrun = false
  queue : t.chan.queue = []
  phase : t.chan.phase = .deaf
  neighbours : t.chan.neighbours = List.replicate 30 Neighbour.initial
  distance : t.chan.distance = 7
  staging : t.staging = []
  walk : t.walk = none
  stay : t.stay = StayTable.initial
  permits : t.permits = PermitBlock.initial
  auth : t.cash.auth = none
  liveness : t.faults.liveness = none
  inbox : t.faults.inbox = []

/-- R140, R144: the retained round after its comparison with the retained time. -/
def Retained.roundStanding (ret : Retained) : Option Round :=
  ret.round.map fun r => { r with isOpen := r.isOpen && !roundExpired r.id ret.clock.time }

/-! ### The mailboxes -/

/-- Main power is present, no start is in progress, no request is held or worked on, no response waits, and the outbound
mailbox is empty: a request written is taken at once. The host has not been found silent, so its write clears no fault. -/
structure State.LinkOpen (s : State) : Prop where
  power : s.supply.power = true
  released : s.supply.resetHeld = false
  inbound : s.link.inbound = none
  waiting : s.link.waiting = none
  outbound : s.link.outbound = none
  walk : s.walk = none
  heard : s.faults.quiet ≠ 2

/-- The same at a started station. -/
structure State.LinkFree (s : State) (r : Running) : Prop where
  isOpen : s.LinkOpen
  running : s.link.running = some r

/-- The state in which a request written to a free link is taken: the liveness timer restarted and the frame held. -/
def State.taking (s : State) (r : Running) (q : Request) : State :=
  (s.startLiveness r.config.liveness).setLink { s.link with inbound := some (soundFrame q) }

/-- R163: a request has been answered: its response waits, or stands in the outbound mailbox with the inbound mailbox
empty. -/
def State.Answered (t : State) (code : Nat) (a : Answer) : Prop :=
  t.link.waiting = some { code, result := a.result, body := a.body, overrun := false } ∨
    (t.link.inbound = none ∧ ∃ o, t.link.outbound =
      some (.response { code, result := a.result, body := a.body, overrun := o }))

/-- R166: a notice of the given body waits in the pending set or stands in the outbound mailbox. -/
def State.Noticed (t : State) (b : NoticeBody) : Prop :=
  ∃ n : Notice, n.body = b ∧ (n ∈ t.link.notices ∨ t.link.outbound = some (.notice n))

/-- R29: what an advance or a step of zone time from u to t delivers: the pending table whose activation time is reached
becomes active (R51), an OPEN round that has expired becomes CLOSED (R144), and a change to a later day removes the claims of
earlier days and ends the claim in flight of such a day DENIED EXPIRED DAY (R111, R121). That the ROUND CHANGED of an expiry
before START does not count a collection which the round holds without a station number is the model's choice (log 22). -/
structure Delivered (u t : State) : Prop where
  activated : ∀ x, u.ret.awaiting = some x → x.activation ≤ t.ret.clock.time →
    t.ret.active = some x ∧ t.ret.awaiting = none ∧ t.faultActive .noTariff = false ∧
      (u.link.level .tariffSwitched ≠ .off →
        t.Noticed (.tariffSwitched (u.ret.active.map TariffTable.name) x.name x.activation t.ret.clock.time))
  standing : (∀ x, u.ret.awaiting = some x → t.ret.clock.time < x.activation) →
    t.ret.active = u.ret.active ∧ t.ret.awaiting = u.ret.awaiting
  round : t.ret.round = u.ret.round.map fun r => { r with isOpen := r.isOpen && !roundExpired r.id t.ret.clock.time }
  closed : ∀ r, u.ret.round = some r → r.isOpen = true → roundExpired r.id t.ret.clock.time = true →
    u.link.level .roundChanged ≠ .off → t.Noticed (.roundChanged .expired r.id r.collector false r.entries.length)
  sameDay : t.ret.clock.time / 86400 ≤ u.day → t.permits = u.permits
  newDay : u.day < t.ret.clock.time / 86400 →
    (∀ c f, u.permits.current = some (c, f) → t.ret.clock.time / 86400 ≤ c.day) →
    t.permits = { u.permits with claims := u.permits.claims.filter fun c => decide (t.ret.clock.time / 86400 ≤ c.day) }
  ended : u.day < t.ret.clock.time / 86400 →
    ∀ c f, u.permits.current = some (c, f) → c.day < t.ret.clock.time / 86400 →
    t.permits.flight = none ∧
      t.permits.claims =
        u.permits.claims.filter (fun x => !x.inFlight && decide (t.ret.clock.time / 86400 ≤ x.day)) ∧
      (u.link.level .claimResult ≠ .off → t.Noticed
        (.claimResult c.id c.serial c.key c.day f.attempts (.deniedExpiredDay (t.ret.clock.time / 86400))))

/-- R56, R136, R137, R144, R161: what the conditions and events of a start leave in t, from the retained items and the lines as
they stand when it is taken. A box found ABSENT is collected as FOUND ABSENT into a round still OPEN, in its place for a
collection without a station number, which no ROUND CHANGED before START counts: the model's choice (log 22). -/
structure StartEvents (ret : Retained) (lines : Supply) (t : State) : Prop where
  items : t.ret.clock = ret.clock ∧ t.ret.ticket = ret.ticket ∧ t.ret.blockList = ret.blockList ∧
    t.ret.snapshot = ret.snapshot
  activated : ∀ x, ret.awaiting = some x → x.activation ≤ ret.clock.time →
    t.ret.active = some x ∧ t.ret.awaiting = none ∧
      t.Noticed (.tariffSwitched (ret.active.map TariffTable.name) x.name x.activation ret.clock.time)
  standing : (∀ x, ret.awaiting = some x → ret.clock.time < x.activation) →
    t.ret.active = ret.active ∧ t.ret.awaiting = ret.awaiting
  unready : t.faultActive .noTariff = t.ret.active.isNone ∧ t.faultActive .timeUnset = !ret.clock.set
  cleared : t.faultActive .tariffBehind = false ∧ t.faultActive .clockDisagree = false ∧
    t.faultActive .doorOpenLong = false ∧ ∀ n k, hostKind n = some k → t.faultActive k = false
  expired : ∀ r, ret.round = some r → r.isOpen = true → roundExpired r.id ret.clock.time = true →
    t.Noticed (.roundChanged .expired r.id r.collector false r.entries.length)
  boxFoundAbsent : lines.boxAbsent = true → ret.door.boxAbsent = false →
    t.ret.lastCollection = some { box := ret.box, time := ret.clock.time, cause := .foundAbsent
                                  round := (ret.roundStanding.filter Round.isOpen).map Round.id } ∧
      t.ret.box = BoxCounters.zero ret.box.denominations ∧
      t.ret.round = ret.roundStanding.map fun r =>
        if r.isOpen then
          r.fileUnplaced { lastAt := ret.clock.time, items := ret.box.items, value := ret.box.value }
        else r
  boxUncollected : (lines.boxAbsent = false ∨ ret.door.boxAbsent = true) →
    t.ret.box = ret.box ∧ t.ret.lastCollection = ret.lastCollection ∧ t.ret.round = ret.roundStanding
  doorFoundOpen : lines.doorOpen = true → ret.door.doorOpen = false →
    t.ret.door = { ret.door with
      doorOpen := true, boxAbsent := lines.boxAbsent, openedAt := some ret.clock.time
      openings := min (ret.door.openings + 1) 65535, latest := some .forced, authorizedBy := none
      forcedOutstanding := true }
  doorFoundClosed : lines.doorOpen = false → ret.door.doorOpen = true →
    t.ret.door = { ret.door with doorOpen := false, boxAbsent := lines.boxAbsent, closedAt := some ret.clock.time }
  doorAgrees : lines.doorOpen = ret.door.doorOpen → t.ret.door = { ret.door with boxAbsent := lines.boxAbsent }
  doorNoticed : lines.boxAbsent = ret.door.boxAbsent → lines.doorOpen ≠ ret.door.doorOpen →
    t.Noticed (.door (if lines.doorOpen then .opening else .closing) t.ret.door none)
  boxNoticed : lines.doorOpen = ret.door.doorOpen → lines.boxAbsent ≠ ret.door.boxAbsent →
    t.Noticed (.door (if lines.boxAbsent then .removal else .insertion) t.ret.door
      (if lines.boxAbsent then t.ret.lastCollection else none))
  cash : t.cash = { CashBlock.initial with doorTimer := if lines.doorOpen then some 600 else none }
  forced : t.faultActive .forcedDoor = t.ret.door.forcedOutstanding ∧
    (t.ret.door.forcedOutstanding = true →
      (t.faultEntry .forcedDoor).detail = t.ret.door.openings % 65536 ∧
        (t.faultEntry .forcedDoor).raisedAt = some ret.clock.time)
  service : t.faults.service = t.derivedService

/-- The command that writes a request. -/
def commandOf : Request → Instr
  | .start r => .start r
  | .restart => .restart
  | .queryStatus => .queryStatus
  | .setTime t => .setTime t
  | .tariffLoad o c => .tariffLoad o c
  | .tariffCommit => .tariffCommit
  | .tariffDiscard => .tariffDiscard
  | .quote r => .quote r
  | .sell r => .sell r
  | .lookup k => .lookup k
  | .permitCheck p k => .permitCheck p k
  | .claimVisitorDay p k => .claimVisitorDay p k
  | .blockListLoad rs => .blockListLoad rs
  | .roundOpen k c => .roundOpen k c
  | .roundClose => .roundClose
  | .roundRead => .roundRead
  | .snapshot => .snapshot
  | .snapshotRead => .snapshotRead
  | .faultRaise k d => .faultRaise k d
  | .faultClear k => .faultClear k
  | .faultRead sel => .faultRead sel
  | .neighboursRead => .neighboursRead

/-- R163: a frame whose check and length are right. -/
def frameSound (f : LinkFrame) : Bool := f.checkAgrees && f.lengthAgrees

/-- The blocks that a request of another block leaves alone: everything but the machine link and the liveness timer. -/
structure SameBlocks (s t : State) : Prop where
  supply : t.supply = s.supply
  ret : t.ret = s.ret
  chan : t.chan = s.chan
  day : t.day = s.day
  staging : t.staging = s.staging
  stay : t.stay = s.stay
  permits : t.permits = s.permits
  cash : t.cash = s.cash
  table : t.faults.table = s.faults.table
  service : t.faults.service = s.faults.service
  inbox : t.faults.inbox = s.faults.inbox
  running : t.link.running = s.link.running

/-! ### Frames heard -/

/-- R12 to R15: the state in which an accepted frame reaches its owner: the neighbours noted, the sequence recorded and the
time merged; none for a duplicate. -/
def State.offered (s : State) (h : RxHeader) (r : Running) (isStatus : Bool) : Option State :=
  ((s.hear h r.config.statusPeriod).recordSeq h isStatus).map fun u => u.mergeTime h

/-- R11 to R15: a frame of the given form is accepted, and reaches its owner in the state u. -/
structure Accepts (s : State) (h : RxHeader) (f : FrameForm) (isStatus : Bool) (r : Running) (u : State) : Prop where
  power : s.supply.power = true
  listening : s.listening = some r
  header : headerOk h f r.config.zone = true
  sender : h.sender ≠ r.number
  origin : h.origin ≠ r.number
  offered : s.offered h r isStatus = some u

/-- R54: a FRESH neighbour entry reports the active tariff id with version v, newer than the active version. -/
def State.behindBy (s : State) (v : Nat) : Prop :=
  ∃ x e rep, s.ret.active = some x ∧ e ∈ s.chan.neighbours ∧ e.state = .fresh ∧ e.reported = some rep ∧
    rep.tariff = some { id := x.name.id, version := v } ∧ x.name.version < v

/-- R11: the form of a frame with a fixed class and length. -/
def fixedForm (h : RxHeader) (cls : FrameClass) (length : Nat) : FrameForm :=
  { classOk := decide (h.cls = cls), length, countOk := true }

/-- R2, R11, 10.2: the header of a frame command, the form its kind asks, and whether it is a STATUS frame; none for a command
that is no frame. -/
def arrivalOf : Instr → Option (RxHeader × FrameForm × Bool)
  | .statusFrame h _ => some (h, fixedForm h .record 12, true)
  | .stayFrame h rs => some (h,
      { classOk := decide (h.cls = .record ∨ h.cls = .bulk), length := 1 + 48 * rs.length
        countOk := decide (1 ≤ rs.length ∧ rs.length ≤ 4) }, false)
  | .claimOpenFrame h _ | .claimFirmFrame h _ | .claimReleaseFrame h _ => some (h, fixedForm h .claim 17, false)
  | .objectHeldFrame h _ | .objectConcurrentFrame h _ => some (h, fixedForm h .urgent 18, false)
  | .objectCountFrame h b => some (h,
      { classOk := decide (h.cls = .urgent), length := 9 + 9 * b.carried.length
        countOk := decide (1 ≤ b.carried.length ∧ b.carried.length ≤ 4) }, false)
  | .roundOpenFrame h _ | .roundEntryFrame h _ | .roundCloseFrame h _ => some (h, fixedForm h .claim 22, false)
  | .faultFrame h b => some (h, fixedForm h (faultClass b.report) 15, false)
  | _ => none

/-! ### The transmit queue -/

/-- R9: the queue entry of an own frame of a station, with its origin sequence. -/
def ownEntry (b : QueuedBody) (station seq : Nat) : TxEntry :=
  { body := b, origin := station, seq, hop := 0, relay := b.relay, cls := b.cls, copy := false, sending := false }

/-- R9, R10, R16: a queue after the relaying of an accepted frame: with room, and no entry of its origin and sequence, the copy
joins it, one hop on. -/
def relayed (q : List TxEntry) (h : RxHeader) (hopLimit : Nat) (b : QueuedBody) : List TxEntry :=
  if h.relay = true ∧ h.hop < hopLimit ∧ q.length < 16 ∧ ∀ e ∈ q, ¬(e.origin = h.origin ∧ e.seq = h.seq) then
    q ++ [{ body := b, origin := h.origin, seq := h.seq, hop := h.hop + 1, relay := h.relay, cls := h.cls, copy := true
            sending := false }]
  else q

/-- R129: a tender counted into the box leaves its band. -/
def State.bandStays (s : State) (tender : Tender) (price excess : Nat) : Prop :=
  ∀ counts capacity, tender = .cash counts → s.cash.capacity = some capacity →
    s.cash.band = some (bandOf (s.ret.box.add counts price excess).items capacity)

/-- R92: from s to t the record committed is handed in a RECORD STAY frame: with room in the queue it joins it and the record
has no unannounced mark; a full queue refuses it and the mark is set; in LOCAL mode it is announced at once (R94). -/
structure StayHanded (s t : State) (r : Running) (x : StayRecord) : Prop where
  admitted : r.number ≠ 0 → s.chan.queue.length < 16 →
    t.chan.queue = s.chan.queue ++ [ownEntry (.stay [x] false) r.number ((s.ret.seq + 1) % 65536)] ∧
      ∀ e ∈ t.stay.entries, e.record.id = x.id → e.unannounced = false
  refused : r.number ≠ 0 → 16 ≤ s.chan.queue.length →
    t.chan.queue = s.chan.queue ∧ ∀ e ∈ t.stay.entries, e.record.id = x.id → e.unannounced = true
  inLocal : r.number = 0 →
    t.chan.queue = s.chan.queue ∧ ∀ e ∈ t.stay.entries, e.record.id = x.id → e.unannounced = false

/-- R129: from s to t the fill band is found again for an item total: a change of band clears the condition of the band left,
raises that of the band entered with detail the item total (its low 16 bits, R146), and gives BOX BAND; a band that stays gives
neither. Without a capacity, before START, no band is found. -/
structure BandFound (s t : State) (items : Nat) : Prop where
  unfound : s.cash.capacity = none → t.cash.band = s.cash.band
  found : ∀ c, s.cash.capacity = some c → t.cash.band = some (bandOf items c)
  kept : (∀ c, s.cash.capacity = some c → s.cash.band = some (bandOf items c)) →
    (∀ k, k = .boxNearFull ∨ k = .boxFull →
      t.faultActive k = s.faultActive k ∧ (t.faultEntry k).detail = (s.faultEntry k).detail ∧
        (t.faultEntry k).raisedAt = (s.faultEntry k).raisedAt ∧
        (t.faultEntry k).clearedAt = (s.faultEntry k).clearedAt ∧
        (t.faultEntry k).occurrences = (s.faultEntry k).occurrences) ∧
      ∀ b : NoticeBody, b.kind = .boxBand → t.Noticed b → s.Noticed b
  left : ∀ c b k, s.cash.capacity = some c → s.cash.band = some b → b ≠ bandOf items c → bandFault b = some k →
    t.faultActive k = false
  entered : ∀ c k, s.cash.capacity = some c → s.cash.band ≠ some (bandOf items c) → bandFault (bandOf items c) = some k →
    s.faults.table.length = 22 →
    t.faultActive k = true ∧ (t.faultEntry k).detail = items % 65536 ∧
      (t.faultEntry k).raisedAt = some s.ret.clock.time
  noticed : ∀ c b, s.cash.capacity = some c → s.cash.band = some b → b ≠ bandOf items c → s.link.level .boxBand ≠ .off →
    t.Noticed (.boxBand (some b) (bandOf items c) items c)

/-- R107: from s to t a block-list hit of a permit, if there is one, raises PERMIT BLOCKED with the low 16 bits of the serial
and gives BLOCK HIT. -/
structure HitTaken (s t : State) (p : PermitRecord) (cls : PermitClass) (use : CheckUse) : Prop where
  raised : ∀ hit, blockHit s.ret.blockList p.serial cls = some hit → s.faults.table.length = 22 →
    (t.faultEntry .permitBlocked).detail = p.serial % 65536 ∧
      (t.faultEntry .permitBlocked).raisedAt = some s.ret.clock.time ∧
      (t.faultEntry .permitBlocked).occurrences = min ((s.faultEntry .permitBlocked).occurrences + 1) 255
  noticed : ∀ i action, blockHit s.ret.blockList p.serial cls = some (i, action) → s.link.level .blockHit ≠ .off →
    t.Noticed (.blockHit p.serial cls i action use s.ret.clock.time)

/-! ### Fault reports -/

/-- R154: the report of a transition of an entry, made at the clock of s. -/
def State.reportOf (s : State) (k : FaultKind) (e : FaultEntry) (t : Transition) (origin : Nat) : FaultReport :=
  { origin, kind := k, severity := severityOf k, transition := t, eventTime := s.ret.clock.time
    eventEpoch := s.ret.clock.epoch, eventSet := s.ret.clock.set, raisedAt := e.raisedAt.getD 0, detail := e.detail
    occurrences := e.occurrences }

/-- R155: what becomes of a report of kind k at station r, the `made`-th, from s to t: at a sink with room in its inbox it
enters there; at a distance below 7 its frame joins a queue with room; in both cases last reported at is the time, and an
earlier deferred report stands, or gives way to the report of a clear (R156). At a distance of 7, and when a full queue refuses
its frame and no other report of the entry stands in its way, it becomes the entry's deferred report. That a refused clear
replaces an older deferred report is deduced (log 20); that one stands beside a later raise is the model's choice (log 69). -/
structure ReportDealt (s t : State) (r : Running) (k : FaultKind) (rep : Nat → FaultReport) : Prop where
  sink : r.config.sink = true → s.faults.inbox.length < 64 →
    t.faults.inbox = s.faults.inbox ++ [{ report := rep r.number, seq := none, enteredAt := s.ret.clock.time }] ∧
      (t.faultEntry k).lastReported = some s.ret.clock.time ∧
      (t.faultEntry k).deferred = (s.faultEntry k).deferred.filter fun d => !d.givesWay s.faults.made (rep 0)
  channel : r.config.sink = false → r.number ≠ 0 → s.chan.distance < 7 → s.chan.queue.length < 16 →
    ownEntry (.fault s.faults.made (rep r.number)) r.number ((s.ret.seq + 1) % 65536) ∈ t.chan.queue ∧
      (t.faultEntry k).lastReported = some s.ret.clock.time ∧
      ((t.faultEntry k).deferred = (s.faultEntry k).deferred.filter fun d => !d.givesWay s.faults.made (rep 0)) ∧
      (t.faultEntry k).lastAdmitted = some (max s.faults.made ((s.faultEntry k).lastAdmitted.getD 0))
  refused : r.config.sink = false → r.number ≠ 0 → s.chan.distance < 7 → 16 ≤ s.chan.queue.length →
    faultClass (rep 0) ≠ .urgent →
    (∀ d, (s.faultEntry k).deferred = some d → d.givesWay s.faults.made (rep 0) = true) →
    (∀ l, (s.faultEntry k).lastAdmitted = some l → l ≤ s.faults.made) →
    (t.faultEntry k).deferred = some { made := s.faults.made, report := rep 0 } ∧
      (t.faultEntry k).lastReported = (s.faultEntry k).lastReported
  far : r.config.sink = false → 7 ≤ s.chan.distance →
    (t.faultEntry k).deferred = some { made := s.faults.made, report := rep 0 } ∧
      (t.faultEntry k).lastReported = (s.faultEntry k).lastReported

end Sys2Proof.Machine
end

