-- ==== Sys2Proof/WellFormed.lean ====
section
/-! DEFINITION. Well-formed commands: every quantity fits the width the spec's layouts give it (00_scope.md; chapter 10). The
ranges that the part itself examines are not here: a value outside them is refused, clamped or discarded by the part. -/

namespace Sys2Proof

/-- An 8-bit quantity. -/
def fitsByte (n : Nat) : Bool := decide (n < byteSpan)

/-- A 16-bit quantity. -/
def fitsWord (n : Nat) : Bool := decide (n < wordSpan)

/-- A 32-bit quantity. -/
def fitsLong (n : Nat) : Bool := decide (n < longSpan)

/-- A quantity of so many bits. -/
def fitsBits (bits n : Nat) : Bool := decide (n < 2 ^ bits)

/-- 10.5: an identity. -/
def wfIdentity (i : Identity) : Bool := fitsByte i.origin && fitsBits 24 i.number && fitsLong i.start

/-- 10.5: a permit record. -/
def wfPermit (p : PermitRecord) : Bool :=
  fitsLong p.serial && fitsByte p.classCode && fitsWord p.issuingZone && fitsWord p.validFrom && fitsWord p.validTo &&
    fitsLong p.boundKey && fitsByte (p.allowance.getD 0) && decide (p.allowance ≠ some 0)

/-- 10.5: an amount or duration. -/
def wfAsked : Asked → Bool
  | .amount a => fitsWord a
  | .duration d => fitsWord d

/-- 10.5: QUOTE. -/
def wfQuote (r : QuoteRequest) : Bool :=
  wfAsked r.asked && r.start.all fitsLong && r.treatment.all fitsByte && r.extend.all wfIdentity

/-- 10.5: a tender, one byte for each count. -/
def wfTender : Tender → Bool
  | .card => true
  | .cash counts => fitsByte counts.length && counts.all fitsByte

/-- 10.5: SELL. -/
def wfSell (r : SellRequest) : Bool :=
  fitsLong r.key && wfAsked r.asked && r.extend.all wfIdentity && r.permit.all wfPermit && wfTender r.tender

/-- R106: a block-list range. -/
def wfRange (r : BlockRange) : Bool := fitsLong r.low && fitsLong r.high

/-- R163: a request. The five straps read 0 to 31 (log 9). -/
def wfRequest : Request → Bool
  | .start r => fitsBits 5 r.straps
  | .setTime t => fitsLong t
  | .quote r => wfQuote r
  | .sell r => wfSell r
  | .lookup k => fitsLong k
  | .permitCheck p k => wfPermit p && fitsLong k
  | .claimVisitorDay p k => wfPermit p && fitsLong k
  | .blockListLoad rs => rs.all wfRange
  | .roundOpen k c => fitsLong k && fitsLong c
  | .restart | .queryStatus | .tariffLoad .. | .tariffCommit | .tariffDiscard | .roundClose | .roundRead | .snapshot
  | .snapshotRead | .faultRaise .. | .faultClear _ | .faultRead _ | .neighboursRead => true

/-- 10.4: a request frame as written: any bytes, and a request with them whose fields fit. -/
def wfFrame (f : WrittenFrame) : Bool := f.spelled.all wfRequest

/-- 10.1: a zone frame's header, its bytes being 13 of header, those of the body, and 2 of check. -/
def wfHeader (h : RxHeader) : Bool :=
  fitsBits 12 h.zone && fitsBits 5 h.sender && fitsBits 5 h.origin && fitsWord h.seq && fitsBits 2 h.hop &&
    fitsByte h.epoch && fitsLong h.time && fitsByte h.bodyLength && decide (h.octets.length = h.bodyLength + 15)

/-- A round id. -/
def wfRoundId (i : RoundId) : Bool := fitsLong i.time && fitsByte i.station

/-- A tariff id and version. -/
def wfTariff (t : TariffName) : Bool := fitsWord t.id && fitsWord t.version

/-- 10.2: a STATUS body. -/
def wfStatus (b : StatusBody) : Bool :=
  fitsByte b.distance && fitsByte b.period && b.tariff.all wfTariff && b.round.all wfRoundId

/-- 10.3: a carried stay record. -/
def wfRecord (r : StayRecord) : Bool :=
  fitsBits 5 r.id.origin && fitsBits 24 r.id.number && fitsLong r.id.start && fitsLong r.key && fitsLong r.expiry &&
    fitsWord r.expiryDay && fitsBits 11 r.minutes && fitsBits 4 r.extensions && fitsBits 11 r.dayMinutes &&
    fitsLong r.dayAccrual && fitsWord r.dayGross && fitsLong r.grossTotal && fitsLong r.paidTotal && wfTariff r.tariff &&
    fitsBits 11 r.maxStay && fitsBits 11 r.noReturn && r.lastBy.all (fitsBits 5) &&
    decide (r.lastBy.isSome ↔ r.extensions ≠ 0) && r.permit.all fun p => fitsLong p.serial

/-- 10.2: a claim id. -/
def wfClaimId (i : ClaimId) : Bool := fitsBits 5 i.origin && fitsWord i.seq

/-- 10.2: the common fields of a CLAIM body. -/
def wfClaim (idSeq serial day key : Nat) : Bool := fitsWord idSeq && fitsLong serial && fitsWord day && fitsLong key

/-- 10.2: a CLAIM OPEN body. -/
def wfOpen (b : ClaimOpenBody) : Bool :=
  wfClaim b.idSeq b.serial b.day b.key && fitsLong b.openTime && fitsBits 3 b.allowance && fitsBits 2 b.attempt

/-- 10.2: a carried claim, its open time within the tariff day of the body. -/
def wfCarried (day : Nat) (x : CarriedClaim) : Bool :=
  wfClaimId x.id && fitsLong x.key && decide (day * daySeconds ≤ x.openTime) &&
    fitsBits 17 (x.openTime - day * daySeconds)

/-- 10.2: an OBJECT body with its carried claims; the count takes three bits. -/
def wfObject (target : ClaimId) (serial day : Nat) (carried : List CarriedClaim) : Bool :=
  wfClaimId target && fitsLong serial && fitsWord day && decide (carried.length < 8) && carried.all (wfCarried day)

/-- 10.2: a collector id, absent when its field is zero. -/
def wfCollector (c : Option Nat) : Bool := c.all fitsLong && decide (c ≠ some 0)

/-- 10.2: a round entry. -/
def wfEntry (e : RoundEntry) : Bool := fitsByte e.station && fitsLong e.lastAt && fitsLong e.items && fitsLong e.value

/-- 10.2: a FAULT body. -/
def wfFault (b : FaultBody) : Bool :=
  fitsLong b.report.eventTime && fitsByte b.report.eventEpoch && fitsLong b.report.raisedAt && fitsWord b.report.detail &&
    fitsByte b.report.occurrences && fitsByte b.distance

/-- A station number. -/
def wfStation (n : Nat) : Bool := decide (1 ≤ n ∧ n ≤ 30)

/-- A well-formed command. -/
def Instr.wf : Instr → Bool
  | .start r => wfRequest (.start r)
  | .restart => wfRequest .restart
  | .queryStatus => wfRequest .queryStatus
  | .setTime t => wfRequest (.setTime t)
  | .tariffLoad o c => wfRequest (.tariffLoad o c)
  | .tariffCommit => wfRequest .tariffCommit
  | .tariffDiscard => wfRequest .tariffDiscard
  | .quote r => wfRequest (.quote r)
  | .sell r => wfRequest (.sell r)
  | .lookup k => wfRequest (.lookup k)
  | .permitCheck p k => wfRequest (.permitCheck p k)
  | .claimVisitorDay p k => wfRequest (.claimVisitorDay p k)
  | .blockListLoad rs => wfRequest (.blockListLoad rs)
  | .roundOpen k c => wfRequest (.roundOpen k c)
  | .roundClose => wfRequest .roundClose
  | .roundRead => wfRequest .roundRead
  | .snapshot => wfRequest .snapshot
  | .snapshotRead => wfRequest .snapshotRead
  | .faultRaise k d => wfRequest (.faultRaise k d)
  | .faultClear k => wfRequest (.faultClear k)
  | .faultRead sel => wfRequest (.faultRead sel)
  | .neighboursRead => wfRequest .neighboursRead
  | .mailboxWrite f => wfFrame f
  | .mailboxRead _ => true
  | .statusFrame h b => wfHeader h && wfStatus b
  | .stayFrame h rs => wfHeader h && fitsByte rs.length && rs.all wfRecord
  | .claimOpenFrame h b => wfHeader h && wfOpen b
  | .claimFirmFrame h b => wfHeader h && wfClaim b.idSeq b.serial b.day b.key && fitsLong b.openTime
  | .claimReleaseFrame h b => wfHeader h && wfClaim b.idSeq b.serial b.day b.key
  | .objectHeldFrame h b => wfHeader h && wfObject b.target b.serial b.day [b.carried]
  | .objectCountFrame h b => wfHeader h && wfObject b.target b.serial b.day b.carried
  | .objectConcurrentFrame h b => wfHeader h && wfObject b.target b.serial b.day [b.carried]
  | .roundOpenFrame h b => wfHeader h && wfRoundId b.id && wfCollector b.collector
  | .roundEntryFrame h b => wfHeader h && wfRoundId b.id && wfCollector b.collector && wfEntry b.entry
  | .roundCloseFrame h b => wfHeader h && wfRoundId b.id
  | .faultFrame h b => wfHeader h && wfFault b
  | .contentionSlot n => decide (n ≤ 123)
  | .directTimerExpiry n => wfStation n
  | .silenceTimerExpiry n => wfStation n
  | .ageingTimerExpiry c => wfClaimId c
  | .carrierEnd | .channelGap | .idleWindow | .transmitCompletion | .statusTimerExpiry | .duplicateStationExpiry
  | .secondCount | .walkEnd | .objectionWindowExpiry | .waitingPeriodExpiry | .doorOpening | .doorClosing | .boxRemoval
  | .boxInsertion | .authorizationTimerExpiry | .doorTimerExpiry | .livenessTimerExpiry | .refreshTimerExpiry _
  | .powerUp .. | .resetLine | .carrierSensed | .resetLineRelease | .mainPowerLoss => true

end Sys2Proof
end

