-- ==== Sys2Proof/Certificates/Slice0/Obligations.lean ====
section
/-! DEFINITION. The statements for the provers. -/

open Sys2Proof Sys2Proof.Machine

/-! ### The step and the machine link -/

/-- A step runs the command at the front of the queue on the state with the queue's rest; with no command waiting the block
idles (log 6). -/
def Obligations.StepRunsFrontCommand : Prop :=
  (∀ (c : Instr) (cs : List Instr) (s : State), s.pending = c :: cs → step s = exec c (s.setPending cs)) ∧
    ∀ s : State, s.pending = [] → step s = .next s

/-- R162: a request frame written while a response is unread is held, whatever it carries but a sound RESTART; READY falls,
and no block is touched. -/
def Obligations.WriteHeldBehindResponse : Prop :=
  ∀ (s : State) (f : WrittenFrame) (x : Response), s.supply.power = true → s.supply.resetHeld = false →
    s.link.inbound = none → s.link.outbound = some (.response x) → s.faults.quiet ≠ 2 →
    goodRestart (heldFrame f) = false →
    ∃ t, exec (.mailboxWrite f) s = .next t ∧ t.link.inbound = some (heldFrame f) ∧ t.ready = false ∧
      t.link.outbound = s.link.outbound ∧ t.link.waiting = s.link.waiting ∧ t.link.overrun = s.link.overrun ∧
      t.link.notices = s.link.notices ∧ t.walk = s.walk ∧ SameBlocks s t

/-- R153, R162: a frame written to an occupied inbound mailbox is discarded, the frame held stands, and the overrun flag is
set; the write counts as a request arrival all the same: it restarts the liveness timer and sets the quiet count to 0, and one
that ends a silence clears HOST SILENT. -/
def Obligations.OccupiedWriteOverruns : Prop :=
  (∀ (s : State) (f : WrittenFrame), s.supply.power = true → s.supply.resetHeld = false → s.link.inbound.isSome = true →
    (s.link.waiting = none ∨ s.link.outbound.isSome = true) → s.faults.quiet ≠ 2 →
    ∃ t, exec (.mailboxWrite f) s = .next t ∧ t.link.inbound = s.link.inbound ∧ t.link.overrun = true ∧
      t.link.waiting = s.link.waiting ∧ t.walk = s.walk ∧ SameBlocks s t) ∧
  ∀ (s : State) (r : Running) (f : WrittenFrame), s.supply.power = true → s.supply.resetHeld = false →
    s.link.running = some r → s.link.inbound.isSome = true →
    ∃ t, exec (.mailboxWrite f) s = .next t ∧ t.faults.liveness = livenessFrom r.config.liveness ∧ t.faults.quiet = 0 ∧
      (s.faults.quiet = 2 → t.faultActive .hostSilent = false)

/-- R163, R165, R174: a frame whose check, computed over the bytes written, or whose length is wrong is answered BAD FRAME, an
unknown code and a malformed body BAD REQUEST; before START every request but START, RESTART, QUERY STATUS and SET TIME is
answered NOT STARTED, in whatever command it comes. No block is touched. (A frame too short for a request code is answered
with the code 0, which is the model's choice, log 46; so is, at a started station, BAD REQUEST to a second START whose body is
malformed, log 70.) A frame laid out as 10.4 has it, with the check of its bytes behind
them, is right in both. -/
def Obligations.RequestsGated : Prop :=
  (∀ (s : State) (r : Running) (f : WrittenFrame), s.LinkFree r →
    (frameSound (heldFrame f) = false →
      ∃ t, exec (.mailboxWrite f) s = .next t ∧
        t.Answered (frameCode (heldFrame f).content) { result := .badFrame, body := .empty } ∧ t.walk = none ∧
        SameBlocks s t) ∧
    (frameSound (heldFrame f) = true → (∀ q, (heldFrame f).content ≠ .request q) →
      ∃ t, exec (.mailboxWrite f) s = .next t ∧ t.Answered (frameCode (heldFrame f).content) .bad ∧ t.walk = none ∧
        SameBlocks s t)) ∧
  (∀ (s : State) (f : WrittenFrame), s.LinkOpen → s.link.running = none → frameSound (heldFrame f) = true →
    4 < frameCode (heldFrame f).content → (∀ c, (heldFrame f).content ≠ .unknown c) →
    ∃ t, exec (.mailboxWrite f) s = .next t ∧
      t.Answered (frameCode (heldFrame f).content) { result := .notStarted, body := .empty } ∧ t.walk = none ∧
      SameBlocks s t) ∧
  (∀ (s : State) (q : Request), s.LinkOpen → s.link.running = none → 4 < requestCode q →
    ∃ t, exec (commandOf q) s = .next t ∧
      t.Answered (requestCode q) { result := .notStarted, body := .empty } ∧ t.walk = none ∧ SameBlocks s t) ∧
  (∀ f : WrittenFrame, checkRight f.octets = false → frameSound (heldFrame f) = false) ∧
  ∀ (code : Nat) (body : List Byte) (q : Option Request), code < 256 → body.length < 65536 →
    heldFrame { octets := requestBytes code body, spelled := q } =
      { lengthAgrees := true, checkAgrees := true, content := contentOf code body q }

/-- R163, R164, R166: a read that takes the whole frame empties the outbound mailbox, and a waiting response goes in, taking
the overrun flag; with no response waiting a pending notice goes in, the HIGH one that joined earliest or, with no HIGH one
pending, the LOW one that joined earliest; and the request held behind the response read is taken and examined. A read that
does not take the whole frame changes nothing, and neither does a read of an empty mailbox with nothing to fill it. A notice
given joins the pending set last, or replaces the body of the one pending of its kind in its place; one of a kind at level OFF
is discarded. -/
def Obligations.MailboxReadRefills : Prop :=
  (∀ (l : MachineLink),
    (∀ n rest, l.notices = n :: rest → (∀ m ∈ l.notices, l.level m.body.kind ≠ .high) → l.nextNotice = some n) ∧
    (∀ before n after, l.notices = before ++ n :: after → l.level n.body.kind = .high →
      (∀ m ∈ before, l.level m.body.kind ≠ .high) → l.nextNotice = some n) ∧
    (l.notices = [] → l.nextNotice = none)) ∧
  (∀ (s : State) (b : NoticeBody),
    (s.link.level b.kind = .off → s.give b = s) ∧
    (s.link.level b.kind ≠ .off →
      ((∀ m ∈ s.link.notices, m.body.kind ≠ b.kind) →
        s.give b = s.setLink { s.link with notices := s.link.notices ++ [{ body := b, givenAt := s.ret.clock.time }] }) ∧
      ∀ before m after, s.link.notices = before ++ m :: after → m.body.kind = b.kind →
        (∀ x ∈ before ++ after, x.body.kind ≠ b.kind) →
        s.give b = s.setLink { s.link with
          notices := before ++ { body := b, givenAt := s.ret.clock.time } :: after })) ∧
  (∀ (s u : State) (f : LinkFrame) (x : Response) (a : Answer), s.supply.power = true →
    s.link.outbound = some (.response x) → s.link.waiting = none → s.link.inbound = some f → s.walk = none →
    (s.setLink { s.link with outbound := none }.refill).examine f = (u, some a) →
    ∃ t, exec (.mailboxRead true) s = .next t ∧ t.Answered (frameCode f.content) a) ∧
  ∀ s : State,
    (s.link.outbound.isSome = true → exec (.mailboxRead false) s = .next s) ∧
    (s.link.outbound = none → s.link.waiting = none → s.link.notices = [] → ∀ w, exec (.mailboxRead w) s = .next s) ∧
    (s.supply.power = true → s.supply.resetHeld = false → s.link.outbound.isSome = true →
      (∀ x, s.link.waiting = some x →
        ∃ t, exec (.mailboxRead true) s = .next t ∧
          t.link.outbound = some (.response { x with overrun := s.link.overrun }) ∧ t.link.overrun = false ∧
          t.link.waiting = none ∧ t.link.inbound = none ∧ t.link.notices = s.link.notices ∧ t.walk = s.walk ∧
          SameBlocks s t) ∧
      (s.link.waiting = none → s.link.inbound = none →
        ∃ t, exec (.mailboxRead true) s = .next t ∧ t.link.outbound = s.link.nextNotice.map Outbound.notice ∧
          (∀ n, s.link.nextNotice = some n → t.link.notices = s.link.notices.erase n) ∧
          t.link.waiting = none ∧ t.link.inbound = none ∧ t.walk = s.walk ∧ SameBlocks s t))

/-- R124, R167, R168: a START that passes starts the station with its number and configuration, the status timer and the
capacity in force, and is answered DONE; with the box empty its denominations are the set in force, and with items in the box
a set that differs waits. One that is refused or malformed leaves the station unstarted and every block as it was. A
second START is refused ALREADY STARTED, and the configuration in force is unchanged; that it is so whatever its fields hold is
the model's choice (log 70). -/
def Obligations.StartTakesConfiguration : Prop :=
  (∀ (s : State) (q : StartRequest), s.LinkOpen → s.link.running = none →
    (∀ c marks, checkStart q s.ret.box.items = .passes c marks →
      ∃ t rep, exec (.start q) s = .next t ∧ t.link.running = some { number := strapNumber q.straps, config := c } ∧
        t.chan.statusTimer = some c.statusPeriod ∧ t.chan.distance = (if c.sink then 0 else 7) ∧
        t.ret.box = (if s.ret.box.items = 0 then
            { s.ret.box with denominations := c.denominations, counts := c.denominations.map fun _ => 0 }
          else s.ret.box) ∧
        t.cash.waitingSet = (if s.ret.box.items ≠ 0 ∧ c.denominations ≠ s.ret.box.denominations then some c.denominations
          else s.cash.waitingSet) ∧
        rep.denominations = t.ret.box.denominations ∧ rep.setWaiting = t.cash.waitingSet.isSome ∧
        t.cash.capacity = some c.capacity ∧ t.cash.band = some (bandOf s.ret.box.items c.capacity) ∧
        t.faults.liveness = livenessFrom c.liveness ∧ t.ret.clock = s.ret.clock ∧ t.stay.cursor = s.stay.cursor ∧
        t.permits = s.permits ∧ t.staging = s.staging ∧ t.walk = none ∧
        t.Answered 1 (.done (.started rep)) ∧ rep.number = strapNumber q.straps ∧ rep.config = c ∧ rep.marks = marks ∧
        rep.reason = s.link.reason) ∧
    (∀ reason, checkStart q s.ret.box.items = .refused reason →
      ∃ t, exec (.start q) s = .next t ∧ t.Answered 1 (.refuse reason) ∧ t.walk = none ∧ SameBlocks s t) ∧
    (checkStart q s.ret.box.items = .malformed →
      ∃ t, exec (.start q) s = .next t ∧ t.Answered 1 .bad ∧ t.walk = none ∧ SameBlocks s t)) ∧
  ∀ (s : State) (r : Running) (q : StartRequest), s.LinkFree r →
    ∃ t, exec (.start q) s = .next t ∧ t.Answered 1 (.refuse .alreadyStarted) ∧ t.walk = none ∧ SameBlocks s t

/-- R169: QUERY STATUS is answered with the gathered body, before and after START, and changes no block. That its item of
FRESH neighbours is their number is deduced (log 57). -/
def Obligations.QueryStatusGathers : Prop :=
  ∀ s : State, s.LinkOpen →
    ∃ t, exec .queryStatus s = .next t ∧ t.Answered 3 (.done (.status s.queryReport)) ∧ t.walk = none ∧ SameBlocks s t

/-- R36, R98, R99: SET TIME, before and after START, sets zone time, advances the epoch and sets the flag; every dispute is
cleared, with TIME UNSET and CLOCK DISAGREE, a step forward takes the records whose retire time it reaches out of the table, a
step backward takes none, and the response gives the clock before and after. The step activates the pending table whose time
it reaches, closes an OPEN round that has expired, and at a later day removes the claims of earlier days (R51, R111, R121,
R144). That the entries which a ROUND CHANGED of that expiry counts before START leave out a collection held without a
station number is the model's choice (log 22). -/
def Obligations.SetTimeSteps : Prop :=
  ∀ (s : State) (z : Nat), s.LinkOpen → z ≤ zoneTimeMax →
    ∃ t, exec (.setTime z) s = .next t ∧ t.ret.clock = { time := z, epoch := (s.ret.clock.epoch + 1) % 256, set := true } ∧
      (∀ e ∈ t.chan.neighbours, e.disputed = false) ∧ t.faultActive .timeUnset = false ∧
      t.faultActive .clockDisagree = false ∧ Delivered s t ∧
      (s.ret.clock.time ≤ z → t.stay.entries.map StayEntry.record =
        (s.stay.entries.map StayEntry.record).filter fun x => decide (z < retireTime x)) ∧
      (z < s.ret.clock.time → t.stay.entries.map StayEntry.record = s.stay.entries.map StayEntry.record) ∧
      t.day = z / 86400 ∧
      t.Answered 4 (.done (.timeSet s.ret.clock { time := z, epoch := (s.ret.clock.epoch + 1) % 256, set := true })) ∧
      t.ret.box = s.ret.box ∧ t.ret.door = s.ret.door ∧ t.ret.blockList = s.ret.blockList ∧ t.cash = s.cash ∧
      t.staging = s.staging ∧ t.supply = s.supply ∧ t.chan.statusTimer = s.chan.statusTimer

/-! ### Starts and main power -/

/-- R170, R172: RESTART, written into an empty inbound mailbox, takes a warm start with reason REQUEST and without a response,
whether or not an earlier response is waiting or unread, and READY is high after it; an assertion of the reset line takes one
with reason LINE, READY and ATTN staying low while the line is held, and its release leaves the blocks as they are. The
retained ticket counter, block list and snapshot keep their values. At both the conditions and events of the start are taken
from the retained items and the lines: a pending table whose time is reached is activated (R56), an OPEN round that has expired
is closed (R144), a box found ABSENT is collected as FOUND ABSENT and a door found OPEN taken as FORCED, the other way round as
an insertion and a closing (R136), and FORCED DOOR is raised again while the forced-outstanding flag is set (R137). That a
start takes no time, so that the clock stands where
R27 advances it by the seconds of the start itself, and that its events are taken at the assertion, so that the release
leaves the blocks alone, is the model's choice (log 11), and so is the place in the round of a collection FOUND ABSENT, which
waits for its station number and is no entry counted before START (log 22). -/
def Obligations.WarmStartsTaken : Prop :=
  (∀ s : State, s.supply.power = true → s.supply.resetHeld = false → s.link.inbound = none →
    ∃ t, exec .restart s = .next t ∧ Restarted t .request ∧ t.ready = true ∧ t.ret.clock = s.ret.clock ∧
      t.ret.ticket = s.ret.ticket ∧ t.ret.blockList = s.ret.blockList ∧ t.ret.snapshot = s.ret.snapshot ∧
      t.supply.marker = .valid ∧ StartEvents s.ret s.supply t) ∧
  (∀ s : State, s.supply.power = true → s.supply.resetHeld = false →
    ∃ t, exec .resetLine s = .next t ∧ Restarted t .line ∧ t.supply.resetHeld = true ∧ t.ready = false ∧
      t.attn = false ∧ t.ret.clock = s.ret.clock ∧ t.ret.ticket = s.ret.ticket ∧ t.ret.seq = s.ret.seq ∧
      t.ret.blockList = s.ret.blockList ∧ t.ret.snapshot = s.ret.snapshot ∧ StartEvents s.ret s.supply t) ∧
  ∀ s : State, s.supply.power = true → s.supply.resetHeld = true →
    ∃ t, exec .resetLineRelease s = .next t ∧ t.supply = { s.supply with resetHeld := false } ∧ t.ret = s.ret ∧
      t.chan = s.chan ∧ t.stay = s.stay ∧ t.permits = s.permits ∧ t.cash = s.cash ∧ t.faults = s.faults ∧
      t.staging = s.staging ∧ (s.link.inbound = none → t.ready = true)

/-- R170, R171: at power-up a VALID marker gives a warm start with reason POWER, zone time advanced by the outage; BLANK or
BROKEN gives a cold start, at which the retained items take their initial values, the marker is written VALID, and RETAINED
LOST is active exactly when the marker read BROKEN. At both the conditions and events of the start are taken from the retained
items and the lines, at a warm one at the time advanced: the pending table activated (R56), the expired round closed (R144),
the box found ABSENT collected as FOUND ABSENT, the door found OPEN taken as FORCED (R136), FORCED DOOR raised again (R137). A
loss of main power leaves the retained store, the marker and the lines, and the backup clock then counts zone time alone. That
the working state stands at a start's values while main power is absent is the model's choice (log 38), and so is that
SECOND_COUNT is then the backup clock and POWER_UP carries the outage (log 10), that a power-up with the reset line held keeps
its reason (log 75), and that a collection FOUND ABSENT waits in the round for its station number, no entry counted before
START (log 22). -/
def Obligations.MainPowerAndMarker : Prop :=
  (∀ (s : State) (outage : Nat) (spoiled : Bool), s.supply.power = false →
    ∃ t, exec (.powerUp outage spoiled) s = .next t ∧ t.supply.power = true ∧ t.supply.marker = .valid ∧
      (s.supply.reading spoiled = .valid →
        Restarted t .power ∧
          t.ret.clock = { s.ret.clock with time := min (s.ret.clock.time + outage) zoneTimeMax } ∧
          t.ret.ticket = s.ret.ticket ∧ t.ret.seq = s.ret.seq ∧ t.ret.blockList = s.ret.blockList ∧
          t.ret.snapshot = s.ret.snapshot ∧ StartEvents { s.ret with clock := t.ret.clock } s.supply t) ∧
      (s.supply.reading spoiled ≠ .valid →
        Restarted t .cold ∧ t.ret.clock = { time := 0, epoch := 0, set := false } ∧ t.ret.active = none ∧
          t.ret.awaiting = none ∧ t.ret.ticket = 1 ∧ t.ret.seq = 0 ∧ t.ret.snapshot = none ∧ t.ret.round = none ∧
          t.ret.blockList = List.replicate 16 BlockRange.inactive ∧ t.ret.box = BoxCounters.zero [] ∧
          (s.supply.doorOpen = false → s.supply.boxAbsent = false → t.ret = Retained.initial) ∧
          StartEvents Retained.initial s.supply t ∧
          t.faultActive .timeUnset = true ∧ t.faultActive .noTariff = true ∧
          (t.faultActive .retainedLost = true ↔ s.supply.reading spoiled = .broken))) ∧
  (∀ s : State, s.supply.power = true →
    ∃ t, exec .mainPowerLoss s = .next t ∧ t.supply = { s.supply with power := false } ∧ t.ret = s.ret ∧
      t.ready = false ∧ t.attn = false ∧ t.link.running = none ∧ t.chan.queue = [] ∧ t.stay = StayTable.initial) ∧
  ∀ s : State, s.supply.power = false →
    exec .secondCount s =
      .next (s.setClock { s.ret.clock with time := min (s.ret.clock.time + 1) zoneTimeMax })

/-! ### Zone time and timers -/

/-- R26, R39, R98: a counted second moves zone time forward by 1, held at 4294967295, leaves epoch and flag, takes the records
it reaches out of the table, and every running elapsed-time timer counts it: the status, DUPLICATE STATION, direct, silence,
authorization, door and liveness timers always; a refresh timer, but for NO TARIFF and TARIFF BEHIND when the second activates
a table; a claim's ageing timer, objection window and waiting period, when the second changes no day. The second activates the
pending table whose time it reaches, closes an OPEN round that has expired, and at a later day removes the claims of earlier
days, the claim in flight ending DENIED EXPIRED DAY (R51, R111, R121, R144). That a timer counts down
to 0, where its expiry is a command of its own, is the model's choice (log 5), and so is that the entries which a ROUND CHANGED
of that expiry counts before START leave out a collection held without a station number (log 22). -/
def Obligations.SecondCountAdvances : Prop :=
  ∀ s : State, s.supply.power = true →
    ∃ t, exec .secondCount s = .next t ∧
      t.ret.clock = { s.ret.clock with time := min (s.ret.clock.time + 1) zoneTimeMax } ∧
      t.chan.statusTimer = tick s.chan.statusTimer ∧ t.faults.liveness = tick s.faults.liveness ∧
      t.cash.doorTimer = tick s.cash.doorTimer ∧ t.day = t.ret.clock.time / 86400 ∧
      t.chan.duplicateTimer = tick s.chan.duplicateTimer ∧
      t.chan.neighbours = s.chan.neighbours.map (fun e =>
        { e with directTimer := tick e.directTimer, silenceTimer := tick e.silenceTimer }) ∧
      t.cash = { s.cash with
        doorTimer := tick s.cash.doorTimer, auth := s.cash.auth.map fun a => { a with left := a.left - 1 } } ∧
      (∀ k, k ≠ .noTariff → k ≠ .tariffBehind → (t.faultEntry k).refresh = tick (s.faultEntry k).refresh) ∧
      ((∀ x, s.ret.awaiting = some x → t.ret.clock.time < x.activation) →
        ∀ k, (t.faultEntry k).refresh = tick (s.faultEntry k).refresh) ∧
      (t.ret.clock.time / 86400 = s.day →
        t.permits.claims = s.permits.claims.map (fun c => { c with ageing := tick c.ageing }) ∧
          t.permits.flight = s.permits.flight.map fun f =>
            { f with window := tick f.window, waitTimer := tick f.waitTimer }) ∧
      t.stay.entries.map StayEntry.record =
        (s.stay.entries.map StayEntry.record).filter (fun x => decide (t.ret.clock.time < retireTime x)) ∧
      Delivered s.tickTimers t ∧ t.ret.box = s.ret.box ∧ t.ret.door = s.ret.door ∧ t.ret.blockList = s.ret.blockList ∧
      t.staging = s.staging ∧ t.walk = s.walk ∧ t.supply = s.supply

/-! ### Tariff tables -/

/-- R46: a TARIFF LOAD inside the area writes the chunk's bytes and leaves the others, answered with the number of marked
bytes; one that is empty, longer than 64 bytes or reaches beyond the area is answered BAD REQUEST with staging unchanged. -/
def Obligations.TariffLoadWritesStaging : Prop :=
  ∀ (s : State) (r : Running) (o : Nat) (chunk : List Byte), s.LinkFree r → stagingWf s.staging = true →
    (1 ≤ chunk.length → chunk.length ≤ 64 → o + chunk.length ≤ 2048 →
      ∃ t, exec (.tariffLoad o chunk) s = .next t ∧
        (∀ a, readStaging t.staging a =
          if o ≤ a ∧ a < o + chunk.length then chunk[a - o]? else readStaging s.staging a) ∧
        stagingWf t.staging = true ∧ t.Answered 5 (.done (.marked t.staging.length)) ∧ t.walk = none ∧
        SameBlocks (s.setStaging t.staging) t) ∧
    (chunk = [] ∨ 64 < chunk.length ∨ 2048 < o + chunk.length →
      ∃ t, exec (.tariffLoad o chunk) s = .next t ∧ t.Answered 5 .bad ∧ t.walk = none ∧ SameBlocks s t)

/-- R40, R47 to R49, R51: a commit that is refused empties staging (unless nothing was staged) and leaves the active and
pending tables; one that passes, its activation still to come, makes the image's table the pending table with its activation
time resolved; one whose activation time is reached makes it the active table. -/
def Obligations.TariffCommitResolves : Prop :=
  ∀ (s : State) (r : Running), s.LinkFree r →
    (∀ reason, readStaged s.staging = .error reason →
      ∃ t, exec .tariffCommit s = .next t ∧ t.Answered 6 (.refuse reason) ∧ t.walk = none ∧ t.staging = [] ∧
        SameBlocks (s.setStaging []) t) ∧
    (∀ image reason p, readStaged s.staging = .ok image →
      validate image (s.ret.active.map TariffTable.name) = .error (reason, p) →
      ∃ t, exec .tariffCommit s = .next t ∧ t.Answered 6 (.refuse reason (.position p)) ∧ t.walk = none ∧
        SameBlocks (s.setStaging []) t) ∧
    (∀ image table, readStaged s.staging = .ok image →
      validate image (s.ret.active.map TariffTable.name) = .ok table →
      s.ret.clock.time < resolveActivation image.activation s.ret.clock.time →
      ∃ t, exec .tariffCommit s = .next t ∧
        t.ret = { s.ret with
          awaiting := some { table with activation := resolveActivation image.activation s.ret.clock.time } } ∧
        t.staging = [] ∧ t.walk = none ∧ t.chan = s.chan ∧ t.stay = s.stay ∧ t.permits = s.permits ∧ t.cash = s.cash ∧
        t.Answered 6 (.done (.committed false table.name (some (resolveActivation image.activation s.ret.clock.time))))) ∧
    ∀ image table, readStaged s.staging = .ok image →
      validate image (s.ret.active.map TariffTable.name) = .ok table →
      resolveActivation image.activation s.ret.clock.time ≤ s.ret.clock.time →
      ∃ t, exec .tariffCommit s = .next t ∧ t.ret.awaiting = none ∧ t.staging = [] ∧
        t.ret.active = some { table with activation := resolveActivation image.activation s.ret.clock.time } ∧
        t.faultActive .noTariff = false ∧ t.ret.clock = s.ret.clock ∧ t.permits = s.permits ∧ t.cash = s.cash ∧
        t.Answered 6 (.done (.committed true table.name none))

/-- R50: TARIFF DISCARD empties staging and the pending area, leaves the active table, tells what was dropped, and gives no
notice. -/
def Obligations.TariffDiscardEmpties : Prop :=
  ∀ (s : State) (r : Running), s.LinkFree r →
    ∃ t, exec .tariffDiscard s = .next t ∧ t.staging = [] ∧ t.ret.awaiting = none ∧ t.ret.active = s.ret.active ∧
      t.Answered 7 (.done (.discarded (!s.staging.isEmpty) (s.ret.awaiting.map TariffTable.name))) ∧
      (∀ n ∈ t.link.notices, n ∈ s.link.notices) ∧
      (∀ n, t.link.outbound = some (.notice n) → n ∈ s.link.notices) ∧ t.walk = none ∧
      SameBlocks ((s.setStaging []).setRet { s.ret with awaiting := none }) t

/-- R43: the day programme of a tariff day: the one an override pair of that day names, else the weekday map's. That a pair is
selected for a day that has passed, or lies beyond zone time's range, too is the model's choice (log 53). -/
def Obligations.ProgrammeSelected : Prop :=
  ∀ (t : TariffTable) (day : Nat),
    (∀ o ∈ t.overrides, o.day = day → (t.overrides.map OverridePair.day).Nodup →
      programmeOf t day = t.programmes.getD o.programme []) ∧
    ((∀ o ∈ t.overrides, o.day ≠ day) →
      programmeOf t day = t.programmes.getD (t.weekdays.getD ((day + 5) % 7) 0) [])

/-! ### Charge computation -/

/-- R57, R58, R77, R86: a QUOTE with a set clock and an active table begins a walk under that table and touches no other block,
the request being held until the walk ends; without them it is refused TIME UNSET or NO TARIFF. One that extends a record is
refused as the check of the record refuses it, and one of a class that the table exempts is refused EXEMPT. Out of form it is
BAD REQUEST. -/
def Obligations.QuoteBeginsWalk : Prop :=
  (∀ (s : State) (r : Running) (q : QuoteRequest), s.LinkFree r → quoteForm q = false →
    ∃ t, exec (.quote q) s = .next t ∧ t.Answered 8 .bad ∧ t.walk = none ∧ SameBlocks s t) ∧
  ∀ (s : State) (r : Running) (q : QuoteRequest), s.LinkFree r → quoteForm q = true →
    (s.ret.clock.set = false →
      ∃ t, exec (.quote q) s = .next t ∧ t.Answered 8 (.refuse .timeUnset) ∧ t.walk = none ∧ SameBlocks s t) ∧
    (s.ret.clock.set = true → s.ret.active = none →
      ∃ t, exec (.quote q) s = .next t ∧ t.Answered 8 (.refuse .noTariff) ∧ t.walk = none ∧ SameBlocks s t) ∧
    (∀ table id reason, s.ret.clock.set = true → s.ret.active = some table → q.extend = some id →
      extensionRecord s.stay table.name id s.ret.clock.time = .error reason →
      ∃ t, exec (.quote q) s = .next t ∧ t.Answered 8 (.refuse reason) ∧ t.walk = none ∧ SameBlocks s t) ∧
    (∀ table, s.ret.clock.set = true → s.ret.active = some table →
      (∀ id, q.extend = some id → ∃ h, extensionRecord s.stay table.name id s.ret.clock.time = .ok h) →
      quoteDiscount table q.treatment = none →
      ∃ t, exec (.quote q) s = .next t ∧ t.Answered 8 (.refuse .exempt) ∧ t.walk = none ∧ SameBlocks s t) ∧
    (∀ table d, s.ret.clock.set = true → s.ret.active = some table → quoteDiscount table q.treatment = some d →
      (q.extend = none →
        ∃ t, exec (.quote q) s = .next t ∧ t.link.inbound = some (soundFrame (.quote q)) ∧ t.ready = false ∧
          t.walk = some (beginWalk table (q.start.getD s.ret.clock.time) q.asked d none none) ∧ SameBlocks s t) ∧
      (∀ id h, q.extend = some id → extensionRecord s.stay table.name id s.ret.clock.time = .ok h →
        ∃ t, exec (.quote q) s = .next t ∧ t.link.inbound = some (soundFrame (.quote q)) ∧ t.ready = false ∧
          t.walk = some (beginWalk table s.ret.clock.time q.asked d (some h) none) ∧ SameBlocks s t))

/-- R66, R67: the gross is the accrual in whole pence, rounded up; the price is the gross less the discount, which is rounded
down, or the minimum where that is greater (in worked case 4, 383 of 510 at 25 %); it is at least the minimum, at most the
gross or the minimum, and never decreases as the gross grows. -/
def Obligations.PriceFromGross : Prop :=
  (∀ x, x ≤ 60 * roundUp x ∧ 60 * roundUp x < x + 60) ∧ roundUp 33880 = 565 ∧ roundUp 30600 = 510 ∧
  (∀ (t : TariffTable) (d g : Nat), priceOf t d g = max (g - g * d / 100) t.minimum ∧
    (t.minimum ≤ 383 → priceOf t 25 510 = 383)) ∧
  ∀ (t : TariffTable) (d g g' : Nat), d ≤ 100 → g ≤ g' →
    t.minimum ≤ priceOf t d g ∧ priceOf t d g ≤ max g t.minimum ∧ priceOf t d g ≤ priceOf t d g'

/-- R61, R62, R68, R69: an AMOUNT walk that gives a result sells within the money: the price is at most the amount and at
least the minimum, the excess is the rest, the expiry is a whole minute, and 1 to 1440 minutes are bought. -/
def Obligations.AmountWalkWithinMoney : Prop :=
  ∀ (table : TariffTable) (start a d : Nat) (h : Option StayRecord) (sale : Option SaleTerms) (r : WalkResult),
    walkOutcome (beginWalk table start (.amount a) d h sale) = .result r →
    r.price ≤ a ∧ table.minimum ≤ r.price ∧ r.excess = a - r.price ∧ r.expiry % 60 = 0 ∧ 1 ≤ r.bought ∧ r.bought ≤ 1440

/-- R58, R65, R70, R72: a DURATION walk of a new session buys at most the minutes asked, and none beyond a max stay; its
charged minutes are those bought. That of an extension goes on from the record's charged minutes, and their sum stays within
the minutes asked, which count from the session's beginning (deduced, log 21), and within the record's max stay. -/
def Obligations.DurationWalkWithinAsked : Prop :=
  (∀ (table : TariffTable) (start n d : Nat) (sale : Option SaleTerms) (r : WalkResult),
    walkOutcome (beginWalk table start (.duration n) d none sale) = .result r →
    r.bought = r.minutes ∧ 1 ≤ r.bought ∧ r.bought ≤ n ∧
      ∀ x y, r.limits = some (x, y) → 0 < x → r.bought ≤ x) ∧
  ∀ (table : TariffTable) (start n d : Nat) (h : StayRecord) (sale : Option SaleTerms) (r : WalkResult),
    walkOutcome (beginWalk table start (.duration n) d (some h) sale) = .result r →
    r.minutes = h.minutes + r.bought ∧ 1 ≤ r.bought ∧ r.minutes ≤ n ∧ (0 < h.maxStay → r.minutes ≤ h.maxStay) ∧
      r.limits = none ∧ r.start = h.expiry

/-- R57, R75, R77: the end of a QUOTE's walk answers the QUOTE with the walk's result or refusal and touches no block. A
refusal carries its clamp reason; that a refusal made before any minute, CLOSED, NOTHING TO BUY or BELOW MINIMUM, carries the
clamp reason none is the model's choice (log 44). -/
def Obligations.WalkEndAnswersQuote : Prop :=
  ∀ (s : State) (w : Walk), s.supply.power = true → s.supply.resetHeld = false → s.walk = some w → w.sale = none →
    ∃ t, exec .walkEnd s = .next t ∧ t.walk = none ∧ SameBlocks s t ∧
      (∀ r, walkOutcome w = .result r → t.Answered 8 (.done (.quoted r))) ∧
      ∀ reason c, walkOutcome w = .refused reason c → t.Answered 8 (.refuse reason (.clamp c))

/-! ### Stays -/

/-- R83 to R87, R127: a SELL that passes its checks begins a walk under the table of the permit check; out of form, its tender
too, it is BAD REQUEST; unset time, no tariff and the standing of the station refuse it with no block touched. A hit of its
permit in the block list has its effects whether the SELL goes on or not (R107). -/
def Obligations.SellBeginsWalk : Prop :=
  (∀ (s : State) (r : Running) (q : SellRequest), s.LinkFree r → sellForm s.ret.box.denominations q = false →
    ∃ t, exec (.sell q) s = .next t ∧ t.Answered 9 .bad ∧ t.walk = none ∧ SameBlocks s t) ∧
  ∀ (s : State) (r : Running) (q : SellRequest), s.LinkFree r → sellForm s.ret.box.denominations q = true →
    (s.ret.clock.set = false →
      ∃ t, exec (.sell q) s = .next t ∧ t.Answered 9 (.refuse .timeUnset) ∧ t.walk = none ∧ SameBlocks s t) ∧
    (s.ret.clock.set = true → s.ret.active = none →
      ∃ t, exec (.sell q) s = .next t ∧ t.Answered 9 (.refuse .noTariff) ∧ t.walk = none ∧ SameBlocks s t) ∧
    ∀ table, s.ret.clock.set = true → s.ret.active = some table →
      (∀ a, s.standingRefusal q.tender = some a →
        ∃ t, exec (.sell q) s = .next t ∧ t.Answered 9 a ∧ t.walk = none ∧ SameBlocks s t) ∧
      (∀ a, s.standingRefusal q.tender = none → s.saleTarget table q = .error a →
        ∃ t, exec (.sell q) s = .next t ∧ t.Answered 9 a ∧ t.walk = none ∧ SameBlocks s t) ∧
      (∀ h e, s.standingRefusal q.tender = none → s.saleTarget table q = .ok h → (s.salePermit q h).2 = .error e →
        ∃ t, exec (.sell q) s = .next t ∧ t.Answered 9 (.refuse e) ∧ t.walk = none ∧ t.permits = s.permits ∧
          t.cash = s.cash ∧ t.ret.box = s.ret.box ∧
          ∀ p cls, q.permit = some p → permitForm p = some cls → HitTaken s t p cls .sell) ∧
      ∀ h d mark, s.standingRefusal q.tender = none → s.saleTarget table q = .ok h →
        (s.salePermit q h).2 = .ok (d, mark) →
        ∃ t, exec (.sell q) s = .next t ∧ t.link.inbound = some (soundFrame (.sell q)) ∧
          t.walk = some (beginWalk table s.ret.clock.time q.asked d h
            (some { key := q.key, tender := q.tender, examined := s.ret.box.denominations, permit := mark })) ∧
          t.permits = s.permits ∧ t.cash = s.cash ∧ t.staging = s.staging ∧
          t.stay.entries.map StayEntry.record = s.stay.entries.map StayEntry.record ∧
          ∀ p cls, q.permit = some p → permitForm p = some cls → HitTaken s t p cls .sell

/-- R69 to R71, R81, R88, R92, R128, R129: the end of the walk of a new session's SELL enters the record with its ticket
number, which is the own ticket counter's where that makes an identity the table does not hold, counts a cash tender and finds
the fill band again, which a card tender leaves alone, hands the record in a RECORD STAY frame, whose refusal sets the
unannounced mark, and answers the SELL. A walk that is refused refuses the SELL with its clamp reason (none before any minute,
the model's choice, log 44), a cash total below the price of a DURATION walk refuses it SHORT PAYMENT with the price, and a
set in force that has changed TENDER CHANGED; nothing is then committed. -/
def Obligations.WalkEndCommitsNewSession : Prop :=
  (∀ (s : State) (w : Walk) (terms : SaleTerms), s.supply.power = true → s.supply.resetHeld = false →
    s.walk = some w → w.sale = some terms →
    (∀ reason c, walkOutcome w = .refused reason c →
      ∃ t, exec .walkEnd s = .next t ∧ t.walk = none ∧ SameBlocks s t ∧ t.Answered 9 (.refuse reason (.clamp c))) ∧
    (∀ r d counts, walkOutcome w = .result r → w.asked = .duration d → terms.tender = .cash counts →
      tenderTotal terms.examined counts < r.price →
      ∃ t, exec .walkEnd s = .next t ∧ t.walk = none ∧ SameBlocks s t ∧
        t.Answered 9 (.refuse .shortPayment (.price r.price))) ∧
    (∀ r x counts, w.continued = none → walkOutcome w = .result r → completeSale terms r = some x →
      terms.tender = .cash counts → s.ret.box.denominations ≠ terms.examined →
      ∃ t, exec .walkEnd s = .next t ∧ t.walk = none ∧ SameBlocks s t ∧ t.Answered 9 (.refuse .tenderChanged))) ∧
  ∀ (s : State) (w : Walk) (terms : SaleTerms) (r x : WalkResult), s.supply.power = true → s.supply.resetHeld = false →
    s.walk = some w → w.sale = some terms → w.continued = none → walkOutcome w = .result r →
    completeSale terms r = some x → s.tenderChanged terms = false → s.stay.entries.length < 384 →
    ∃ t id, exec .walkEnd s = .next t ∧ t.walk = none ∧ id.origin = s.own ∧ id.start = w.start ∧
      (s.stay.find { origin := s.own, number := s.ret.ticket, start := w.start } = none → id.number = s.ret.ticket) ∧
      t.ret.ticket = nextTicket id.number ∧ (∃ e ∈ t.stay.entries, e.record = newRecord terms x id) ∧
      t.stay.entries.length = s.stay.entries.length + 1 ∧
      t.ret.box = (match terms.tender with
        | .card => s.ret.box
        | .cash counts => s.ret.box.add counts x.price x.excess) ∧
      (terms.tender = .card → t.cash = s.cash) ∧ (∀ counts, terms.tender = .cash counts → BandFound s t t.ret.box.items) ∧
      t.Answered 9 (soldAnswer x (newRecord terms x id)) ∧ t.ret.clock = s.ret.clock ∧ t.permits = s.permits ∧
      t.staging = s.staging ∧
      (s.bandStays terms.tender x.price x.excess →
        ∀ run, s.link.running = some run → StayHanded s t run (newRecord terms x id))

/-- R89, R90, R92, R128, R129: the end of the walk of an extension's SELL replaces the record found again by its extended
version, counts a cash tender and finds the fill band again, which a card tender leaves alone, hands the record in a RECORD
STAY frame, whose refusal sets the unannounced mark, and answers the SELL. A record no longer held refuses it UNKNOWN TICKET,
one that differs from the continuation RECORD CHANGED, one of another tariff id TARIFF MISMATCH, and a set in force that has
changed TENDER CHANGED; nothing is then committed. That charged minutes beyond R80's 1440, where the max stay is 0, are stored
as the walk counted them is the model's choice (log 45), and so is that R90's checks come before TENDER CHANGED (log 27). -/
def Obligations.WalkEndCommitsExtension : Prop :=
  (∀ (s : State) (w : Walk) (terms : SaleTerms) (r x : WalkResult) (h : StayRecord), s.supply.power = true →
    s.supply.resetHeld = false → s.walk = some w → w.sale = some terms → w.continued = some h →
    walkOutcome w = .result r → completeSale terms r = some x →
    let refused (reason : Reason) : Prop :=
      ∃ t, exec .walkEnd s = .next t ∧ t.walk = none ∧ SameBlocks s t ∧ t.Answered 9 (.refuse reason)
    (s.stay.find h.id = none → refused .unknownTicket) ∧
    (∀ e, s.stay.find h.id = some e →
      (sameContinuation e.record h = false → refused .recordChanged) ∧
      (sameContinuation e.record h = true → e.record.tariff.id ≠ w.table.name.id → refused .tariffMismatch) ∧
      (sameContinuation e.record h = true → e.record.tariff.id = w.table.name.id → ∀ counts, terms.tender = .cash counts →
        s.ret.box.denominations ≠ terms.examined → refused .tenderChanged))) ∧
  ∀ (s : State) (w : Walk) (terms : SaleTerms) (r x : WalkResult) (h held : StayRecord), s.supply.power = true →
    s.supply.resetHeld = false → s.walk = some w → w.sale = some terms → w.continued = some h →
    walkOutcome w = .result r → completeSale terms r = some x → foundAgain s.stay h w.table.name = .ok held →
    s.tenderChanged terms = false →
    ∃ t, exec .walkEnd s = .next t ∧ t.walk = none ∧ (∃ e ∈ t.stay.entries, e.record = extendedRecord held terms x s.own) ∧
      (∀ e ∈ t.stay.entries, e.record.id = held.id → e.record = extendedRecord held terms x s.own) ∧
      t.Answered 9 (soldAnswer x (extendedRecord held terms x s.own)) ∧ t.ret.ticket = s.ret.ticket ∧
      t.ret.box = (match terms.tender with
        | .card => s.ret.box
        | .cash counts => s.ret.box.add counts x.price x.excess) ∧
      (terms.tender = .card → t.cash = s.cash) ∧ (∀ counts, terms.tender = .cash counts → BandFound s t t.ret.box.items) ∧
      t.ret.clock = s.ret.clock ∧ t.permits = s.permits ∧ t.staging = s.staging ∧
      (s.bandStays terms.tender x.price x.excess →
        ∀ run, s.link.running = some run → StayHanded s t run (extendedRecord held terms x s.own))

/-- R100: LOOKUP gives the records of the key ordered by expiry, latest first, those of equal expiry in table order, the first
four of them, each with its state, and the number found; it changes no block. A key of 0 is answered BAD REQUEST. -/
def Obligations.LookupFindsByKey : Prop :=
  ∀ (s : State) (r : Running) (key : Nat), s.LinkFree r →
    (key = 0 → ∃ t, exec (.lookup key) s = .next t ∧ t.Answered 10 .bad ∧ t.walk = none ∧ SameBlocks s t) ∧
    (key ≠ 0 →
      ∃ found : List StayRecord, found.Perm (s.stay.ofKey key) ∧ found.Pairwise (fun x y => y.expiry ≤ x.expiry) ∧
        (∀ z, found.filter (fun x => decide (x.expiry = z)) = (s.stay.ofKey key).filter fun x => decide (x.expiry = z)) ∧
        ∃ t, exec (.lookup key) s = .next t ∧ t.walk = none ∧ SameBlocks s t ∧
          t.Answered 10 (.done (.found (s.stay.ofKey key).length
            ((found.take 4).map fun x => (lookState x s.ret.clock.time, x)) s.ret.clock.time s.ret.clock.set)))

/-- R95 to R97: one carried record merged: out of form or retired it is passed over; not held, it enters a table with room; an
older version held is replaced; a newer one stands; of two differing versions of one extension count the one with the later
expiry is kept, at equal expiry the one with the higher paid total, and else the one held, and each time STAY CONFLICT is
raised with the origin; the version held heard again changes nothing. Into a table of 384 records a record of this station's
own writing enters in place of the heard record earliest in table order, or of the own one earliest when none is heard; a
heard record enters only in place of a heard one that retires earlier, and else is dropped. The loss of a live record raises
STAY TABLE FULL with its origin. -/
def Obligations.RecordMergeRules : Prop :=
  ∀ (s : State) (r : StayRecord),
    (carriedOk r = false ∨ retireTime r ≤ s.ret.clock.time → s.mergeRecord r = s) ∧
    (carriedOk r = true → s.ret.clock.time < retireTime r →
      (s.stay.find r.id = none → s.stay.entries.length < 384 →
        (s.mergeRecord r).stay.find r.id = some { record := r, unannounced := false }) ∧
      (∀ e, s.stay.find r.id = some e →
        (e.record.extensions < r.extensions →
          (s.mergeRecord r).stay.find r.id = some { record := r, unannounced := false } ∧
            (s.mergeRecord r).faults = s.faults) ∧
        (r.extensions < e.record.extensions ∨ r = e.record → s.mergeRecord r = s) ∧
        (r.extensions = e.record.extensions → e.record.expiry < r.expiry →
          ((s.mergeRecord r).stay.find r.id).map StayEntry.record = some r) ∧
        (r.extensions = e.record.extensions → r.expiry < e.record.expiry →
          ((s.mergeRecord r).stay.find r.id).map StayEntry.record = some e.record) ∧
        (r.extensions = e.record.extensions → r.expiry = e.record.expiry →
          ((s.mergeRecord r).stay.find r.id).map StayEntry.record =
            some (if e.record.paidTotal < r.paidTotal then r else e.record)) ∧
        (r.extensions = e.record.extensions → r ≠ e.record → s.faults.table.length = 22 →
          ((s.mergeRecord r).faultEntry .stayConflict).detail = r.id.origin % 65536 ∧
          ((s.mergeRecord r).faultEntry .stayConflict).raisedAt = some s.ret.clock.time ∧
          ((s.mergeRecord r).faultEntry .stayConflict).occurrences =
            min ((s.faultEntry .stayConflict).occurrences + 1) 255)) ∧
      (s.stay.find r.id = none → s.stay.entries.length = 384 → s.faults.table.length = 22 → ∀ before c after,
        s.stay.entries = before ++ c :: after → (∀ e ∈ before, ownRecord e.record s.own = true) →
        (ownRecord c.record s.own = false ∨ (before = [] ∧ ∀ e ∈ s.stay.entries, ownRecord e.record s.own = true)) →
        let enters := ownRecord r s.own || (!ownRecord c.record s.own && decide (retireTime c.record < retireTime r))
        let lost := if enters then c.record else r
        (s.mergeRecord r).stay.entries.map StayEntry.record =
          (if enters then (insertEntry { record := r, unannounced := false } (before ++ after)).map StayEntry.record
            else s.stay.entries.map StayEntry.record) ∧
        (s.ret.clock.time < lost.expiry →
          ((s.mergeRecord r).faultEntry .stayTableFull).detail = lost.id.origin % 65536 ∧
          ((s.mergeRecord r).faultEntry .stayTableFull).raisedAt = some s.ret.clock.time) ∧
        (lost.expiry ≤ s.ret.clock.time → (s.mergeRecord r).faults = s.faults)))

/-! ### Permits -/

/-- R103, R104, R107: PERMIT CHECK answers by the check of a permit in form, BAD REQUEST for one out of form, and touches
neither the table of stays, the claims nor the box. A hit in the block list, of either action, raises PERMIT BLOCKED with the
low 16 bits of the serial and gives BLOCK HIT. -/
def Obligations.PermitCheckAnswers : Prop :=
  ∀ (s : State) (r : Running) (p : PermitRecord) (key : Nat), s.LinkFree r →
    (permitForm p = none →
      ∃ t, exec (.permitCheck p key) s = .next t ∧ t.Answered 11 .bad ∧ t.walk = none ∧ SameBlocks s t) ∧
    ∀ cls, permitForm p = some cls →
      ∃ t, exec (.permitCheck p key) s = .next t ∧ t.walk = none ∧ t.permits = s.permits ∧ t.cash = s.cash ∧
        t.ret.box = s.ret.box ∧ t.ret.blockList = s.ret.blockList ∧
        t.stay.entries.map StayEntry.record = s.stay.entries.map StayEntry.record ∧
        (blockHit s.ret.blockList p.serial cls = none → SameBlocks s t) ∧ HitTaken s t p cls .permitCheck ∧
        (∀ i, blockHit s.ret.blockList p.serial cls = some (i, .refuse) →
          t.Answered 11 (.refuse .blocked (.judged s.today s.ret.clock.set none))) ∧
        (∀ x, blockHit s.ret.blockList p.serial cls = x → (∀ i, x ≠ some (i, .refuse)) →
          (∀ e, s.judgePermit p cls key = .error e → t.Answered 11 (.refuse e (.judged s.today s.ret.clock.set none))) ∧
          ∀ w, s.judgePermit p cls key = .ok w → t.Answered 11 (.done (.judged s.today s.ret.clock.set (some w))))

/-- R108: BLOCK LIST LOAD replaces the whole list, the positions beyond the ranges given becoming inactive; a range whose low
serial lies above its high refuses the load with the first such position. That those positions hold serials 0 and action NOTE
is the model's choice (log 68). -/
def Obligations.BlockListLoadReplaces : Prop :=
  ∀ (s : State) (r : Running) (rs : List BlockRange), s.LinkFree r → rs.length ≤ 16 →
    ((∀ x ∈ rs, x.low ≤ x.high) →
      ∃ t, exec (.blockListLoad rs) s = .next t ∧ t.walk = none ∧
        t.ret.blockList = rs ++ List.replicate (16 - rs.length) BlockRange.inactive ∧
        t.Answered 13 (.done (.ranges (rs.countP rangeActive))) ∧
        SameBlocks (s.setRet { s.ret with blockList := t.ret.blockList }) t) ∧
    (∀ i x, rs[i]? = some x → x.high < x.low → (∀ j y, j < i → rs[j]? = some y → y.low ≤ y.high) →
      ∃ t, exec (.blockListLoad rs) s = .next t ∧ t.Answered 13 (.refuse .badRange (.range i)) ∧ t.walk = none ∧
        SameBlocks s t)

/-- R113, R123: a CLAIM VISITOR DAY that passes its checks at a station on the channel whose queue has room, or an entry that
gives way, is answered PENDING, and the claim enters the list PENDING under the id of its CLAIM OPEN frame; with a queue that
refuses the frame it is refused ZONE BUSY and nothing of the claim is kept; in LOCAL mode its id is (0, 0) and its objection
window runs at once. A hit of the book in the block list that lets the check go on has its effects (R107). -/
def Obligations.ClaimVisitorDayOpens : Prop :=
  ∀ (s u : State) (r : Running) (p : PermitRecord) (key allowance : Nat) (cls : PermitClass), s.LinkFree r → key ≠ 0 →
    permitForm p = some cls → (s.faults.service = .inService ∨ s.faults.service = .degraded) →
    (s.taking r (.claimVisitorDay p key)).checkPermit p cls key .claimVisitorDay = (u, .ok (.visitor allowance)) →
    claimRefusal u.permits p.serial u.today key allowance = none →
    (r.number ≠ 0 → 16 ≤ u.chan.queue.length → victim u.chan.queue = none →
      ∃ t, exec (.claimVisitorDay p key) s = .next t ∧ t.Answered 12 (.refuse .zoneBusy) ∧ t.permits = s.permits ∧
        t.ret = u.ret ∧ t.chan = u.chan ∧ t.stay = u.stay ∧ t.cash = s.cash ∧ t.walk = none ∧
        HitTaken s t p cls .claimVisitorDay) ∧
    (r.number ≠ 0 → (u.chan.queue.length < 16 ∨ (victim u.chan.queue).isSome = true) →
      ∃ t, exec (.claimVisitorDay p key) s = .next t ∧ t.ret.seq = (u.ret.seq + 1) % 65536 ∧ t.walk = none ∧
        t.permits.claims = enterClaim u.permits.claims
          { serial := p.serial, day := s.today, key, id := { origin := r.number, seq := t.ret.seq }
            openTime := s.ret.clock.time, state := .pending, ageing := none } ∧
        (∃ f, t.permits.flight = some f ∧ f.allowance = allowance ∧ f.attempts = 1 ∧ f.awaiting = true ∧ f.window = none) ∧
        t.stay.entries.map StayEntry.record = u.stay.entries.map StayEntry.record ∧
        (u.chan.queue.length < 16 → t.stay = u.stay) ∧ t.cash = s.cash ∧ HitTaken s t p cls .claimVisitorDay ∧
        t.Answered 12 { result := .pending
                        body := .claimOpened { origin := r.number, seq := t.ret.seq } s.today s.ret.clock.time }) ∧
    (r.number = 0 →
      ∃ t, exec (.claimVisitorDay p key) s = .next t ∧ t.ret = u.ret ∧ t.walk = none ∧ t.stay = u.stay ∧ t.cash = s.cash ∧
        HitTaken s t p cls .claimVisitorDay ∧
        t.permits.claims = enterClaim u.permits.claims
          { serial := p.serial, day := s.today, key, id := { origin := 0, seq := 0 }, openTime := s.ret.clock.time
            state := .pending, ageing := none } ∧
        (∃ f, t.permits.flight = some f ∧ f.allowance = allowance ∧ f.attempts = 1 ∧ f.window = some 3) ∧
        t.Answered 12 { result := .pending, body := .claimOpened { origin := 0, seq := 0 } s.today s.ret.clock.time })

/-- R115: at the expiry of the objection window the claim in flight ends as it is judged: with an outcome it leaves the list;
else it is granted, standing FIRM, and a VISITOR DAY record to the end of its day enters a table with room. -/
def Obligations.ObjectionWindowGrants : Prop :=
  ∀ (s : State) (c : Claim) (f : Flight), s.supply.power = true → s.permits.current = some (c, f) → f.window.isSome = true →
    ∃ t, exec .objectionWindowExpiry s = .next t ∧ t.permits.flight = none ∧ (∀ x ∈ t.permits.claims, x.inFlight = false) ∧
      t.ret.clock = s.ret.clock ∧ t.cash = s.cash ∧ t.staging = s.staging ∧
      (∀ o, flightVerdict s.permits c f = some o →
        t.permits.claims = s.permits.claims.filter (fun x => !x.inFlight) ∧
          t.stay.entries.map StayEntry.record = s.stay.entries.map StayEntry.record) ∧
      (flightVerdict s.permits c f = none →
        (∃ x ∈ t.permits.claims, x.id = c.id ∧ x.state = .firm) ∧
          (s.stay.entries.length < 384 →
            ∃ e ∈ t.stay.entries, e.record.kind = .visitorDay ∧ e.record.key = c.key ∧
              e.record.expiry = (c.day + 1) * 86400))

/-- R111, R117: at the expiry of the waiting period the claim in flight no longer waits: it is PENDING again, or has ended; at
the expiry of its ageing timer a PROVISIONAL claim leaves the list, and nothing else changes. -/
def Obligations.ClaimTimersExpire : Prop :=
  (∀ (s : State) (c : Claim) (f : Flight), s.supply.power = true → s.permits.current = some (c, f) → c.state = .waiting →
    f.waitTimer.isSome = true →
    ∃ t, exec .waitingPeriodExpiry s = .next t ∧ (∀ x ∈ t.permits.claims, x.state ≠ .waiting) ∧
      (∀ g, t.permits.flight = some g → g.waitFor = none ∧ g.waitTimer = none) ∧ t.ret.clock = s.ret.clock ∧
      t.cash = s.cash ∧ t.stay.entries.map StayEntry.record = s.stay.entries.map StayEntry.record) ∧
  ∀ (s : State) (id : ClaimId), s.supply.power = true →
    exec (.ageingTimerExpiry id) s =
      .next (s.setClaims (s.permits.claims.filter fun c =>
        !decide (c.id = id ∧ c.state = .provisional ∧ c.ageing.isSome))).settle

/-! ### Cash, the door and rounds -/

/-- R132, R151: an opening of the door is recorded, AUTHORIZED under an authorization and else FORCED with FORCED DOOR
active; the door timer starts and the service state is HOLD. -/
def Obligations.DoorOpeningRecorded : Prop :=
  ∀ s : State, s.supply.power = true → s.supply.doorOpen = false → s.faults.table.length = 22 →
    ∃ t, exec .doorOpening s = .next t ∧ t.supply = { s.supply with doorOpen := true } ∧
      t.cash = { s.cash with doorTimer := some 600 } ∧ t.faults.service = .hold ∧ t.ret.box = s.ret.box ∧
      t.ret.clock = s.ret.clock ∧ t.permits = s.permits ∧ t.ret.door.doorOpen = true ∧
      t.ret.door.openedAt = some s.ret.clock.time ∧ t.ret.door.openings = min (s.ret.door.openings + 1) 65535 ∧
      t.ret.door.boxAbsent = s.ret.door.boxAbsent ∧
      (∀ a, s.cash.auth = some a →
        t.ret.door.latest = some .authorized ∧ t.ret.door.authorizedBy = some a.key ∧
          t.ret.door.forcedOutstanding = s.ret.door.forcedOutstanding) ∧
      (s.cash.auth = none →
        t.ret.door.latest = some .forced ∧ t.ret.door.authorizedBy = none ∧ t.ret.door.forcedOutstanding = true ∧
          t.faultActive .forcedDoor = true)

/-- R133, R135: a closing of the door is recorded; the door timer stops, DOOR OPEN LONG is cleared, and with the box present
the authorization is consumed. An insertion of the box sets the box PRESENT; with the door closed the authorization is
consumed. -/
def Obligations.CompartmentCloses : Prop :=
  (∀ s : State, s.supply.power = true → s.supply.doorOpen = true →
    ∃ t, exec .doorClosing s = .next t ∧ t.supply = { s.supply with doorOpen := false } ∧
      t.ret.door = { s.ret.door with doorOpen := false, closedAt := some s.ret.clock.time } ∧
      t.cash = { s.cash with doorTimer := none, auth := if s.ret.door.boxAbsent then s.cash.auth else none } ∧
      t.faultActive .doorOpenLong = false ∧ t.ret.box = s.ret.box ∧ t.ret.clock = s.ret.clock ∧ t.permits = s.permits ∧
      t.faults.service = t.derivedService) ∧
  ∀ s : State, s.supply.power = true → s.supply.boxAbsent = true →
    ∃ t, exec .boxInsertion s = .next t ∧ t.supply = { s.supply with boxAbsent := false } ∧
      t.ret.door = { s.ret.door with boxAbsent := false } ∧ t.ret.box = s.ret.box ∧
      t.ret.lastCollection = s.ret.lastCollection ∧
      t.cash = { s.cash with auth := if s.ret.door.doorOpen then s.cash.auth else none } ∧
      t.ret.clock = s.ret.clock ∧ t.permits = s.permits ∧ t.faults.service = t.derivedService

/-- R129, R134: a removal of the box latches the collection entry, zeroes the counters, takes a waiting set into force, files
the entry in the OPEN round, makes the service state HOLD, and at a started station finds the fill band again at 0 items.
Before START the station has no number to file it under, and the entry is held in the round's own place for it, which is the
model's choice (log 22). -/
def Obligations.BoxRemovalLatches : Prop :=
  ∀ s : State, s.supply.power = true → s.supply.boxAbsent = false →
    ∃ t, exec .boxRemoval s = .next t ∧ t.supply = { s.supply with boxAbsent := true } ∧
      t.ret.lastCollection = some { box := s.ret.box, time := s.ret.clock.time, cause := .removed, round := s.openRound } ∧
      t.ret.box = BoxCounters.zero (s.cash.waitingSet.getD s.ret.box.denominations) ∧ t.cash.waitingSet = none ∧
      t.ret.door = { s.ret.door with boxAbsent := true } ∧ t.faults.service = .hold ∧
      t.ret.round = s.filed { box := s.ret.box, time := s.ret.clock.time, cause := .removed, round := s.openRound } ∧
      t.ret.clock = s.ret.clock ∧ t.ret.snapshot = s.ret.snapshot ∧ t.permits = s.permits ∧ BandFound s t 0

/-- R131, R133: the authorization timer's expiry ends the authorization and changes nothing else; the door timer's expiry
stops the timer and raises DOOR OPEN LONG with the whole minutes since the opening, of which the detail takes the low 16 bits
(R146). -/
def Obligations.CashTimersExpire : Prop :=
  (∀ s : State, s.supply.power = true →
    exec .authorizationTimerExpiry s = .next (s.setCash { s.cash with auth := none }).settle) ∧
  ∀ (s : State) (opened : Nat), s.supply.power = true → s.cash.doorTimer.isSome = true → s.faults.table.length = 22 →
    s.ret.door.openedAt = some opened → opened ≤ s.ret.clock.time →
    ∃ t, exec .doorTimerExpiry s = .next t ∧ t.cash = { s.cash with doorTimer := none } ∧
      t.faultActive .doorOpenLong = true ∧
      (t.faultEntry .doorOpenLong).detail = (s.ret.clock.time - opened) / 60 % 65536 ∧ t.ret.door = s.ret.door ∧
      t.ret.box = s.ret.box ∧ t.permits = s.permits

/-- R138, R139: SNAPSHOT latches the box as it stands unless a snapshot is held; SNAPSHOT READ gives the whole snapshot and
releases it, or is refused NO SNAPSHOT with nothing changed. -/
def Obligations.SnapshotLatchedAndReleased : Prop :=
  ∀ (s : State) (r : Running), s.LinkFree r →
    (s.ret.snapshot = none →
      (∃ t, exec .snapshot s = .next t ∧ t.walk = none ∧ t.Answered 17 (.done (.snapshotAt s.ret.clock.time false)) ∧
        SameBlocks (s.setRet { s.ret with
          snapshot := some (Snapshot.mk s.ret.box s.ret.clock.time s.ret.door.doorOpen s.ret.door.boxAbsent
            s.openRound) }) t) ∧
      ∃ t, exec .snapshotRead s = .next t ∧ t.walk = none ∧ t.Answered 18 (.refuse .noSnapshot) ∧ SameBlocks s t) ∧
    ∀ x, s.ret.snapshot = some x →
      (∃ t, exec .snapshot s = .next t ∧ t.walk = none ∧ t.Answered 17 (.done (.snapshotAt x.time true)) ∧ SameBlocks s t) ∧
      ∃ t, exec .snapshotRead s = .next t ∧ t.walk = none ∧ t.Answered 18 (.done (.snapshot x)) ∧
        SameBlocks (s.setRet { s.ret with snapshot := none }) t

/-- R131, R141: ROUND OPEN authorizes the station for 900 seconds; with no OPEN round it makes a new round current under the
present zone time and the own station number, and with an OPEN round it joins that one. A zero key or id is BAD REQUEST. -/
def Obligations.RoundOpenAuthorizes : Prop :=
  ∀ (s : State) (r : Running) (key id : Nat), s.LinkFree r →
    (key = 0 ∨ id = 0 →
      ∃ t, exec (.roundOpen key id) s = .next t ∧ t.Answered 14 .bad ∧ t.walk = none ∧ SameBlocks s t) ∧
    (key ≠ 0 → id ≠ 0 →
      ∃ t, exec (.roundOpen key id) s = .next t ∧ t.walk = none ∧ t.cash = { s.cash with auth := some { key, left := 900 } } ∧
        (s.compartmentOpen = false → t.ret.door = { s.ret.door with forcedOutstanding := false } ∧
          t.faultActive .forcedDoor = false) ∧
        (s.compartmentOpen = true → t.ret.door = s.ret.door) ∧ t.ret.box = s.ret.box ∧ t.ret.clock = s.ret.clock ∧
        t.permits = s.permits ∧
        (∀ x, s.ret.round = some x → x.isOpen = true →
          t.ret.round = some x ∧ t.Answered 14 (.done (.roundOpened .joined x.id x.collector 900))) ∧
        ((∀ x, s.ret.round = some x → x.isOpen = false) →
          t.ret.round = some { id := { time := s.ret.clock.time, station := r.number }, collector := some id, isOpen := true
                               entries := [], unplaced := none } ∧
          t.Answered 14 (.done (.roundOpened .opened { time := s.ret.clock.time, station := r.number } (some id) 900))))

/-- R144, R145: ROUND CLOSE closes the OPEN round and is refused NO ROUND without one; ROUND READ gives the round and the
last collection record and changes no block. -/
def Obligations.RoundCloseAndRead : Prop :=
  ∀ (s : State) (r : Running), s.LinkFree r →
    (∀ x, s.ret.round = some x → x.isOpen = true →
      ∃ t, exec .roundClose s = .next t ∧ t.ret.round = some { x with isOpen := false } ∧ t.walk = none ∧
        t.Answered 15 (.done (.roundClosed x.id)) ∧ t.cash = s.cash ∧ t.ret.door = s.ret.door ∧ t.ret.box = s.ret.box ∧
        t.permits = s.permits) ∧
    ((∀ x, s.ret.round = some x → x.isOpen = false) →
      ∃ t, exec .roundClose s = .next t ∧ t.Answered 15 (.refuse .noRound) ∧ t.walk = none ∧ SameBlocks s t) ∧
    ∃ t, exec .roundRead s = .next t ∧ t.Answered 16 (.done (.rounds s.ret.round s.ret.lastCollection)) ∧ t.walk = none ∧
      SameBlocks s t

/-! ### Faults -/

/-- R148 to R150, R154 to R156: FAULT RAISE of a host kind sets its entry and derives the service state, answered with the
occurrences and that state; any other kind, or a detail above 65,535, is BAD REQUEST with the service state, and so is FAULT
CLEAR of any other kind. FAULT CLEAR of an active host kind clears its entry and keeps its occurrences and detail; of an
inactive one it is answered NOT ACTIVE with the table unchanged. The raise and the clear make a report of the entry, which
enters a sink's inbox, is handed, or is deferred. A report refused or evicted is dropped when the entry holds a deferred
report or a later one has left, but the report of a clear replaces the deferred report of what it clears: that it does so when
refused is deduced (log 20), that a raise or refresh leaves a deferred report in place the model's choice (log 69). That each
of these BAD REQUESTs, to an unassigned code and to a detail above 65,535 too, gives the service state is deduced (log 49). -/
def Obligations.HostFaultsRaisedAndCleared : Prop :=
  (∀ (s : State) (r : Running) (kind detail : Nat), s.LinkFree r → s.faults.table.length = 22 →
    (8 ≤ kind ∨ 65536 ≤ detail →
      ∃ t, exec (.faultRaise kind detail) s = .next t ∧ t.walk = none ∧ SameBlocks s t ∧
        t.Answered 19 { result := .badRequest, body := .standing t.faults.service }) ∧
    ∀ k, hostKind kind = some k → detail < 65536 →
      ∃ t, exec (.faultRaise kind detail) s = .next t ∧ t.walk = none ∧ (t.faultEntry k).active = true ∧
        (t.faultEntry k).raisedAt = some s.ret.clock.time ∧ (t.faultEntry k).detail = detail ∧
        (t.faultEntry k).occurrences = min ((s.faultEntry k).occurrences + 1) 255 ∧ (t.faultEntry k).refresh = some 600 ∧
        t.faults.service = t.derivedService ∧
        t.Answered 19 (.done (.raised (t.faultEntry k).occurrences t.faults.service)) ∧ t.permits = s.permits ∧
        t.cash = s.cash ∧ t.ret.box = s.ret.box ∧ t.ret.clock = s.ret.clock ∧
        ReportDealt s t r k (s.reportOf k (t.faultEntry k) .raised)) ∧
  (∀ (s : State) (n : Nat) (x : FaultReport),
    ((∃ d, (s.faultEntry x.kind).deferred = some d ∧ d.givesWay n x = false) ∨
        (∃ l, (s.faultEntry x.kind).lastAdmitted = some l ∧ n < l) → s.deferAfterRefusal n x = s) ∧
    ∀ d, (s.faultEntry x.kind).deferred = some d → d.givesWay n x = true →
      (∀ l, (s.faultEntry x.kind).lastAdmitted = some l → l ≤ n) → s.faults.table.length = 22 →
      ((s.deferAfterRefusal n x).faultEntry x.kind).deferred = some { made := n, report := x }) ∧
  (∀ (s : State) (r : Running) (kind : Nat), s.LinkFree r → 8 ≤ kind →
    ∃ t, exec (.faultClear kind) s = .next t ∧ t.walk = none ∧ SameBlocks s t ∧
      t.Answered 20 { result := .badRequest, body := .standing t.faults.service }) ∧
  ∀ (s : State) (r : Running) (kind : Nat) (k : FaultKind), s.LinkFree r → hostKind kind = some k →
    (s.faultActive k = true →
      ∃ t, exec (.faultClear kind) s = .next t ∧ t.walk = none ∧ (t.faultEntry k).active = false ∧
        (t.faultEntry k).clearedAt = some s.ret.clock.time ∧ (t.faultEntry k).refresh = none ∧
        (t.faultEntry k).occurrences = (s.faultEntry k).occurrences ∧ (t.faultEntry k).detail = (s.faultEntry k).detail ∧
        t.faults.service = t.derivedService ∧ t.Answered 20 (.done (.cleared false t.faults.service)) ∧
        t.permits = s.permits ∧ t.cash = s.cash ∧ t.ret.box = s.ret.box ∧
        ReportDealt s t r k (s.reportOf k (t.faultEntry k) .cleared)) ∧
    (s.faultActive k = false →
      ∃ t, exec (.faultClear kind) s = .next t ∧ t.walk = none ∧ SameBlocks s t ∧
        t.Answered 20 (.done (.cleared true s.faults.service)))

/-- R159: FAULT READ TABLE gives the entries and changes no block; INBOX at a sink gives and removes the four oldest reports
and clears the overflow flag, and elsewhere is refused NOT SINK. -/
def Obligations.FaultReadGives : Prop :=
  ∀ (s : State) (r : Running), s.LinkFree r →
    (∃ t, exec (.faultRead .table) s = .next t ∧ t.walk = none ∧ SameBlocks s t ∧
      t.Answered 21 (.done (.faultTable (s.faults.table.map faultItem)))) ∧
    (r.config.sink = true →
      ∃ t, exec (.faultRead .inbox) s = .next t ∧ t.walk = none ∧ t.faults.inbox = s.faults.inbox.drop 4 ∧
        t.faults.overflow = false ∧ t.faults.table = s.faults.table ∧ t.ret = s.ret ∧ t.chan = s.chan ∧
        t.Answered 21 (.done
          (.inbox (s.faults.inbox.take 4) (s.faults.inbox.length - 4) s.faults.overflow))) ∧
    (r.config.sink = false →
      ∃ t, exec (.faultRead .inbox) s = .next t ∧ t.walk = none ∧ SameBlocks s t ∧ t.Answered 21 (.refuse .notSink))

/-- R153, R154: the first liveness expiry makes the quiet count 1 and starts the timer again; the second makes it 2, stops
the timer and raises HOST SILENT with the period; a refresh expiry of an active entry starts its timer again. -/
def Obligations.FaultTimersExpire : Prop :=
  (∀ (s : State) (r : Running), s.supply.power = true → s.link.running = some r → s.faults.liveness.isSome = true →
    s.faults.table.length = 22 →
    (s.faults.quiet = 0 →
      ∃ t, exec .livenessTimerExpiry s = .next t ∧ t.faults.quiet = 1 ∧
        t.faults.liveness = some r.config.liveness ∧ t.faults.table = s.faults.table ∧ t.ret = s.ret ∧ t.chan = s.chan) ∧
    (s.faults.quiet ≠ 0 →
      ∃ t, exec .livenessTimerExpiry s = .next t ∧ t.faults.quiet = 2 ∧ t.faults.liveness = none ∧
        t.faultActive .hostSilent = true ∧ (t.faultEntry .hostSilent).detail = r.config.liveness % 65536 ∧
        t.faults.service = t.derivedService ∧ t.cash = s.cash ∧ t.permits = s.permits)) ∧
  ∀ (s : State) (k : FaultKind), s.supply.power = true → s.faultActive k = true →
    (s.faultEntry k).refresh.isSome = true →
    ∃ t, exec (.refreshTimerExpiry k) s = .next t ∧ (t.faultEntry k).refresh = some 600 ∧ t.faultActive k = true ∧
      (t.faultEntry k).occurrences = (s.faultEntry k).occurrences ∧ t.faults.service = s.faults.service ∧
      t.permits = s.permits ∧ t.cash = s.cash ∧ t.ret.box = s.ret.box

/-! ### The zone channel -/

/-- R4, R6: carrier of another source ends a window or a gap; its end starts the gap; the gap's end begins a window; an idle
window clears the spent mark and the next window begins. Nothing else changes. -/
def Obligations.ChannelWindows : Prop :=
  ∀ s : State, s.supply.power = true →
    (∀ l, s.chan.phase = .window l →
      exec .carrierSensed s = .next (s.setChan { s.chan with phase := .carrier }).settle ∧
      exec .idleWindow s = .next (s.setChan { s.chan with phase := .window none, spent := false }).settle) ∧
    (s.chan.phase = .gap →
      exec .carrierSensed s = .next (s.setChan { s.chan with phase := .carrier }).settle ∧
      exec .channelGap s = .next (s.setChan { s.chan with phase := .window none }).settle) ∧
    (s.chan.phase = .carrier → exec .carrierEnd s = .next (s.setChan { s.chan with phase := .gap }).settle)

/-- R5 to R8, R174: in its slot, on an idle channel, the station begins to transmit its queue head, unless in FAIR mode it is
spent and the head is not URGENT; in any other slot it transmits nothing. The queue head is the entry not in transmission of
the highest class present, the earliest admitted of that class, and the bytes sent carry a right check. -/
def Obligations.ContentionSlotTransmits : Prop :=
  (∀ (q : List TxEntry) (e : TxEntry), queueHead q = some e ↔ e.sending = false ∧
    ∃ before after, q = before ++ e :: after ∧
      (∀ x ∈ before, x.sending = false → classBand e.cls < classBand x.cls) ∧
      ∀ x ∈ after, x.sending = false → classBand e.cls ≤ classBand x.cls) ∧
  (∀ f : AirFrame, checkRight (sendingOf f).octets = true) ∧
  ∀ (s : State) (r : Running) (l : Option Nat) (slot : Nat) (e : TxEntry), s.supply.power = true →
    s.link.running = some r → s.chan.phase = .window l → slot ≤ 123 → (∀ x, l = some x → x < slot) →
    queueHead s.chan.queue = some e →
    (slot = classBand e.cls * 31 + (r.number - 1) →
      ((r.config.mode = .fair ∧ s.chan.spent = true) → e.cls = .urgent) →
      ∃ t, exec (.contentionSlot slot) s = .next t ∧ t.chan.phase = .sending ∧ t.chan.onAir = some (sendingOf (s.airFrame r e)) ∧
        t.chan.queue = s.chan.queue.map (fun x => if x = e then { x with sending := true } else x) ∧
        t.chan.neighbours = s.chan.neighbours ∧ t.ret = s.ret ∧ t.stay = s.stay ∧ t.permits = s.permits ∧
        t.faults = s.faults ∧ t.cash = s.cash) ∧
    (slot ≠ classBand e.cls * 31 + (r.number - 1) ∨
        (r.config.mode = .fair ∧ s.chan.spent = true ∧ e.cls ≠ .urgent) →
      exec (.contentionSlot slot) s = .next (s.setChan { s.chan with phase := .window (some slot) }).settle)

/-- R3, R6, R7, R9, R10: at the end of the own transmission the entry leaves the queue, the gap begins, and in FAIR mode the
spent mark is set; the objection window of a PENDING claim whose CLAIM OPEN it was starts. An own frame handed joins a queue
with room under a new origin sequence; into a queue of 16 an URGENT or CLAIM frame enters in place of the youngest BULK entry
not in transmission, or of the youngest such RECORD entry when there is no BULK one, and every other is refused. That the
RECORD entry gives way when the only BULK one is in transmission is the model's choice (log 51). -/
def Obligations.TransmitCompletionRemoves : Prop :=
  (∀ (s : State) (r : Running) (b : QueuedBody), s.link.running = some r → r.number ≠ 0 →
    (s.chan.queue.length < 16 →
      s.handOwn b = ((s.setRet { s.ret with seq := (s.ret.seq + 1) % 65536 }).setQueue
        (s.chan.queue ++ [ownEntry b r.number ((s.ret.seq + 1) % 65536)]), .queued ((s.ret.seq + 1) % 65536))) ∧
    (16 ≤ s.chan.queue.length → b.cls = .record ∨ b.cls = .bulk → s.handOwn b = (s, .refused)) ∧
    (16 ≤ s.chan.queue.length → b.cls = .urgent ∨ b.cls = .claim →
      ((∀ e ∈ s.chan.queue, e.sending = true ∨ e.cls = .urgent ∨ e.cls = .claim) → s.handOwn b = (s, .refused)) ∧
      ∀ before v after, s.chan.queue = before ++ v :: after → v.sending = false →
        (v.cls = .bulk ∨ (v.cls = .record ∧ ∀ e ∈ s.chan.queue, e.cls = .bulk → e.sending = true)) →
        (∀ e ∈ after, e.cls = v.cls → e.sending = true) → s.chan.queue.Nodup →
        (s.handOwn b).2 = .queued ((s.ret.seq + 1) % 65536) ∧ (s.handOwn b).1.ret.seq = (s.ret.seq + 1) % 65536 ∧
        (s.handOwn b).1.chan.queue = before ++ after ++ [ownEntry b r.number ((s.ret.seq + 1) % 65536)] ∧
        ∀ x, v.copy = false → v.body = .stay [x] false →
          ∀ e ∈ (s.handOwn b).1.stay.entries, e.record.id = x.id → e.record.extensions = x.extensions →
            e.unannounced = true)) ∧
  ∀ s : State, s.supply.power = true → s.chan.phase = .sending →
    ∃ t, exec .transmitCompletion s = .next t ∧
      t.chan = { s.chan with
        phase := .gap, onAir := none
        spent := s.chan.spent || s.link.running.any (fun r => decide (r.config.mode = .fair))
        queue := s.chan.queue.filter fun e => !e.sending } ∧
      t.ret = s.ret ∧ t.faults = s.faults ∧ t.cash = s.cash ∧ t.permits.claims.map Claim.id = s.permits.claims.map Claim.id ∧
      t.stay.entries.map StayEntry.record = s.stay.entries.map StayEntry.record ∧
      ∀ e b c f, s.chan.queue.find? TxEntry.sending = some e → e.copy = false → e.body = .claimOpen b →
        s.permits.current = some (c, f) → c.state = .pending → c.id = openFrameId e.origin e.seq b →
        ∃ g, t.permits.flight = some g ∧ g.window = some 3 ∧ g.awaiting = false

/-- R11 to R14, R174: a frame of any kind whose check, computed over its bytes, or whose codes, form, station numbers, hop
count or zone are wrong changes nothing; one that fails only in bearing the own station number as its sender raises DUPLICATE
STATION with detail its origin, for three status periods. An echo of an own frame, and a relayable frame whose sequence is a
duplicate or too old, do no more than mark their stations heard. The window of an origin takes a first sequence as its
highest, moves forward to a newer one, and marks one up to 32 behind; a relayable frame already marked, equal to the highest,
or further behind is discarded; of the others a STATUS frame so far behind opens the window afresh. -/
def Obligations.UnacceptedFramesDiscarded : Prop :=
  (∀ (i : Instr) (h : RxHeader) (f : FrameForm) (isStatus : Bool) (s : State), arrivalOf i = some (h, f, isStatus) →
    (checkRight h.octets = false ∨ h.codesAssigned = false ∨ f.classOk = false ∨ f.countOk = false ∨
      h.bodyLength ≠ f.length ∨ h.sender = 0 ∨ 30 < h.sender ∨ h.origin = 0 ∨ 30 < h.origin ∨ 3 < h.hop ∨
      (h.hop = 0 ∧ h.origin ≠ h.sender) ∨ (h.hop ≠ 0 ∧ h.origin = h.sender) ∨
      ∀ r, s.link.running = some r → h.zone ≠ r.config.zone) →
    (s.link.outbound.isSome = true ∨ (s.link.waiting = none ∧ s.link.notices = [])) → exec i s = .next s) ∧
  (∀ (i : Instr) (h : RxHeader) (f : FrameForm) (isStatus : Bool) (s : State) (r : Running),
    arrivalOf i = some (h, f, isStatus) → s.listening = some r → s.faults.table.length = 22 →
    headerOk h f r.config.zone = true → h.sender = r.number →
    ∃ t, exec i s = .next t ∧ t.faultActive .duplicateStation = true ∧
      (t.faultEntry .duplicateStation).detail = h.origin ∧ t.chan.duplicateTimer = some (3 * r.config.statusPeriod) ∧
      t.chan.neighbours = s.chan.neighbours ∧ t.ret.clock = s.ret.clock ∧ t.permits = s.permits ∧ t.cash = s.cash) ∧
  (∀ (i : Instr) (h : RxHeader) (f : FrameForm) (isStatus : Bool) (s : State) (r : Running),
    arrivalOf i = some (h, f, isStatus) → s.listening = some r → headerOk h f r.config.zone = true → h.sender ≠ r.number →
    (h.origin = r.number ∨ (s.hear h r.config.statusPeriod).recordSeq h isStatus = none) →
    exec i s = .next (s.hear h r.config.statusPeriod).settle ∧
      (s.chan.neighbours.length = 30 →
        (s.hear h r.config.statusPeriod).neighbour h.sender =
          (s.neighbour h.sender).heardAsSender s.ret.clock.time r.config.statusPeriod) ∧
      (s.hear h r.config.statusPeriod).permits = s.permits ∧ (s.hear h r.config.statusPeriod).cash = s.cash ∧
      (s.hear h r.config.statusPeriod).ret.clock = s.ret.clock ∧
      (s.hear h r.config.statusPeriod).stay.entries.map StayEntry.record = s.stay.entries.map StayEntry.record) ∧
  (∀ q isStatus, dedupe none q = some (SeqWindow.mk q 0) ∧ follow none q isStatus = SeqWindow.mk q 0) ∧
  ∀ (w : SeqWindow) (q : Nat), w.high < 65536 → q < 65536 →
    (∀ d, 1 ≤ d → d ≤ 32767 → (q + 65536 - w.high) % 65536 = d →
      ∃ x, dedupe (some w) q = some x ∧ (∀ b, follow (some w) q b = x) ∧ x.high = q ∧
        ∀ j, 1 ≤ j → j ≤ 32 → (x.seen j = true ↔ j = d ∨ (d < j ∧ w.seen (j - d) = true))) ∧
    (q = w.high → dedupe (some w) q = none ∧ ∀ b, follow (some w) q b = w) ∧
    (∀ d, 1 ≤ d → d ≤ 32 → (w.high + 65536 - q) % 65536 = d →
      (w.seen d = true → dedupe (some w) q = none) ∧
      ∃ x, (w.seen d = false → dedupe (some w) q = some x) ∧ (∀ b, follow (some w) q b = x) ∧ x.high = w.high ∧
        ∀ j, 1 ≤ j → j ≤ 32 → (x.seen j = true ↔ j = d ∨ w.seen j = true)) ∧
    (32 < (w.high + 65536 - q) % 65536 → (w.high + 65536 - q) % 65536 ≤ 32767 →
      dedupe (some w) q = none ∧ follow (some w) q true = SeqWindow.mk q 0 ∧ follow (some w) q false = w)

/-- R15, R19, R22, R30 to R35: an accepted STATUS frame records the reported values in its origin's entry, and the own sink
distance is the one that the entries then give. An accepted frame of any kind reaches its owner with its time merged: a sender
without a set clock is not merged; an unset own clock, and a newer epoch, take time and epoch as a step, every dispute
cleared; an older epoch, or one 128 apart, is ignored; in one epoch a sender not ahead moves nothing, one 1 or 2 seconds ahead
is followed, one up to 120 ahead moves the clock by 2, and one further ahead is disputed. After it CLOCK DISAGREE is active
exactly while 3 or more entries are FRESH and disputed, and TARIFF BEHIND exactly while a FRESH entry reports the active
tariff id in a newer version (R34, R54). A third disputed FRESH entry raises CLOCK DISAGREE with detail 3, and a count that
stays on one side of 3 leaves its entry; the values a STATUS frame reports raise TARIFF BEHIND, when it becomes true and when
the newest version reported is above its detail, with detail that version, and otherwise leave its entry. -/
def Obligations.StatusFrameRecorded : Prop :=
  (∀ (s u : State) (h : RxHeader) (f : FrameForm) (isStatus : Bool) (r : Running), Accepts s h f isStatus r u →
    s.chan.neighbours.length = 30 → s.ret.clock.epoch < 256 →
    (h.timeSet = false → u.ret.clock = s.ret.clock) ∧
    (h.timeSet = true → (s.ret.clock.set = false ∨ (1 ≤ (h.epoch + 256 - s.ret.clock.epoch) % 256 ∧
        (h.epoch + 256 - s.ret.clock.epoch) % 256 ≤ 127)) →
      u.ret.clock = { time := h.time, epoch := h.epoch, set := true } ∧ ∀ e ∈ u.chan.neighbours, e.disputed = false) ∧
    (h.timeSet = true → s.ret.clock.set = true → 128 ≤ (h.epoch + 256 - s.ret.clock.epoch) % 256 →
      u.ret.clock = s.ret.clock) ∧
    (h.timeSet = true → s.ret.clock.set = true → h.epoch = s.ret.clock.epoch →
      (h.time ≤ s.ret.clock.time → u.ret.clock = s.ret.clock ∧ (u.neighbour h.sender).disputed = false) ∧
      (s.ret.clock.time < h.time → h.time ≤ s.ret.clock.time + 2 →
        u.ret.clock = { s.ret.clock with time := h.time } ∧ (u.neighbour h.sender).disputed = false) ∧
      (s.ret.clock.time + 2 < h.time → h.time ≤ s.ret.clock.time + 120 →
        u.ret.clock = { s.ret.clock with time := s.ret.clock.time + 2 } ∧ (u.neighbour h.sender).disputed = false) ∧
      (s.ret.clock.time + 120 < h.time → u.ret.clock = s.ret.clock ∧ (u.neighbour h.sender).disputed = true)) ∧
    (s.faults.table.length = 22 →
      (u.faultActive .clockDisagree = true ↔ 3 ≤ u.disputedFresh) ∧
      (u.faultActive .tariffBehind = true ↔ ∃ v, u.behindBy v) ∧
      ((s.neighbour h.sender).state = .fresh → (s.neighbour h.origin).state = .fresh →
        (s.faultActive .clockDisagree = true ↔ 3 ≤ s.disputedFresh) →
        (s.disputedFresh < 3 → 3 ≤ u.disputedFresh →
          (u.faultEntry .clockDisagree).detail = 3 ∧
            (u.faultEntry .clockDisagree).raisedAt = some s.ret.clock.time ∧
            (u.faultEntry .clockDisagree).occurrences =
              min ((s.faultEntry .clockDisagree).occurrences + 1) 255) ∧
        ((3 ≤ s.disputedFresh ↔ 3 ≤ u.disputedFresh) →
          (u.faultEntry .clockDisagree).detail = (s.faultEntry .clockDisagree).detail ∧
            (u.faultEntry .clockDisagree).raisedAt = (s.faultEntry .clockDisagree).raisedAt ∧
            (u.faultEntry .clockDisagree).clearedAt = (s.faultEntry .clockDisagree).clearedAt ∧
            (u.faultEntry .clockDisagree).occurrences = (s.faultEntry .clockDisagree).occurrences)))) ∧
  ∀ (s u : State) (h : RxHeader) (r : Running) (b : StatusBody),
    Accepts s h (fixedForm h .record 12) true r u → s.chan.neighbours.length = 30 →
    ∃ t, exec (.statusFrame h b) s = .next t ∧ (t.neighbour h.origin).reported = some (reportedOf b) ∧
      t.chan.distance = t.distanceNow ∧ t.ret.clock = u.ret.clock ∧ t.permits = u.permits ∧ t.cash = u.cash ∧
      t.ret.box = u.ret.box ∧ t.stay.entries.map StayEntry.record = u.stay.entries.map StayEntry.record ∧
      (s.faults.table.length = 22 →
        (t.faultActive .clockDisagree = true ↔ 3 ≤ t.disputedFresh) ∧
        (t.faultActive .tariffBehind = true ↔ ∃ v, t.behindBy v) ∧
        ∀ v, t.behindBy v → (∀ y, t.behindBy y → y ≤ v) →
          (u.faultActive .tariffBehind = false ∨ (u.faultEntry .tariffBehind).detail < v →
            (t.faultEntry .tariffBehind).detail = v % 65536 ∧
              (t.faultEntry .tariffBehind).raisedAt = some u.ret.clock.time ∧
              (t.faultEntry .tariffBehind).occurrences = min ((u.faultEntry .tariffBehind).occurrences + 1) 255) ∧
          (u.faultActive .tariffBehind = true → v ≤ (u.faultEntry .tariffBehind).detail →
            (t.faultEntry .tariffBehind).detail = (u.faultEntry .tariffBehind).detail ∧
              (t.faultEntry .tariffBehind).raisedAt = (u.faultEntry .tariffBehind).raisedAt ∧
              (t.faultEntry .tariffBehind).occurrences = (u.faultEntry .tariffBehind).occurrences))

/-- R16, R95: an accepted STAY frame merges its records in the order carried into the table as the clock's merge left it, and
touches no claim, box or door; it is then relayed one hop on, below the hop limit, where its relay is allowed and the queue
has room and no entry of its origin and sequence. That the copy is handed after what the merge itself hands is the model's
choice (log 13). -/
def Obligations.StayFrameMerges : Prop :=
  ∀ (s u : State) (h : RxHeader) (r : Running) (rs : List StayRecord),
    (h.cls = .record ∨ h.cls = .bulk) → 1 ≤ rs.length → rs.length ≤ 4 →
    Accepts s h { classOk := true, length := 1 + 48 * rs.length, countOk := true } false r u →
    ∃ t, exec (.stayFrame h rs) s = .next t ∧ t.stay = (u.mergeRecords rs).stay ∧ t.permits = u.permits ∧ t.cash = u.cash ∧
      t.ret.box = u.ret.box ∧ t.ret.door = u.ret.door ∧ t.ret.clock = u.ret.clock ∧
      t.chan.queue = relayed (u.mergeRecords rs).chan.queue h r.config.hopLimit (.stay rs (decide (h.cls = .bulk)))

/-- R117, R119: an accepted CLAIM OPEN for a book without a claim on the day is inserted PROVISIONAL with its ageing timer of
30 seconds; one of a day gone by is ignored, and so is one whose id is held FIRM; a PROVISIONAL claim of its id, left by an
earlier attempt, is first removed. For a vehicle that holds a FIRM claim it is answered OBJECT HELD; for a book whose
allowance is used, OBJECT COUNT with the first four vehicles; against an own claim in flight, OBJECT CONCURRENT, and a claim
in flight that the arriving one precedes waits for it; a PROVISIONAL claim of its vehicle that precedes it is told by OBJECT
CONCURRENT, and one that does not gives way to it. Which four vehicles the COUNT carries is deduced (log 25), and that the
OBJECT is handed before the relayed copy (log 13), that an attempt number of 0 takes the id's sequence from the body (log 72),
and that an allowance of 0 is answered OBJECT COUNT though it carry no claim (log 79), are the model's choices. -/
def Obligations.ClaimOpenFrameInserts : Prop :=
  ∀ (s u : State) (h : RxHeader) (r : Running) (b : ClaimOpenBody), Accepts s h (fixedForm h .claim 17) false r u →
    (b.day < u.today → ∃ t, exec (.claimOpenFrame h b) s = .next t ∧ t.permits = u.permits) ∧
    (u.today ≤ b.day → 1 ≤ b.allowance → u.permits.claims.length < 160 →
      (∀ c ∈ u.permits.claims, c.of b.serial b.day = false ∧ c.id ≠ openFrameId h.origin h.seq b) →
      ∃ t, exec (.claimOpenFrame h b) s = .next t ∧ t.permits.flight = u.permits.flight ∧
        t.permits.claims = u.permits.claims ++ [
          { serial := b.serial, day := b.day, key := b.key, id := openFrameId h.origin h.seq b, openTime := b.openTime
            state := .provisional, ageing := some 30 }] ∧
        t.cash = u.cash ∧ t.ret = u.ret ∧ t.stay = u.stay) ∧
    ((∃ c ∈ u.permits.claims, c.id = openFrameId h.origin h.seq b ∧ c.state = .firm) →
      ∃ t, exec (.claimOpenFrame h b) s = .next t ∧ t.permits = u.permits ∧ t.cash = u.cash ∧ t.ret = u.ret ∧
        t.stay = u.stay ∧ t.chan.queue = relayed u.chan.queue h r.config.hopLimit (.claimOpen b)) ∧
    (u.today ≤ b.day → 1 ≤ b.allowance → u.permits.claims.length < 160 →
      (∀ c ∈ u.permits.claims, (c.id = openFrameId h.origin h.seq b → c.state = .provisional) ∧
        (c.of b.serial b.day = true → c.id = openFrameId h.origin h.seq b)) →
      ∃ t, exec (.claimOpenFrame h b) s = .next t ∧ t.permits.flight = u.permits.flight ∧
        t.permits.claims = u.permits.claims.filter (fun c => decide (c.id ≠ openFrameId h.origin h.seq b)) ++ [
          { serial := b.serial, day := b.day, key := b.key, id := openFrameId h.origin h.seq b, openTime := b.openTime
            state := .provisional, ageing := some 30 }] ∧
        t.cash = u.cash ∧ t.ret = u.ret ∧ t.stay = u.stay) ∧
    (u.today ≤ b.day → (∀ c ∈ u.permits.claims, c.id ≠ openFrameId h.origin h.seq b) → u.chan.queue.length < 16 →
      let id := openFrameId h.origin h.seq b
      let handed (t : State) (x : QueuedBody) := ownEntry x r.number ((u.ret.seq + 1) % 65536) ∈ t.chan.queue
      (∀ c, u.permits.holder b.serial b.day b.key = some c →
        ∃ t, exec (.claimOpenFrame h b) s = .next t ∧ t.permits = u.permits ∧
          handed t (.objectHeld { target := id, serial := b.serial, day := b.day, carried := carriedOf c })) ∧
      (u.permits.holder b.serial b.day b.key = none → b.allowance ≤ u.permits.vehicles b.serial b.day →
        ∃ t, exec (.claimOpenFrame h b) s = .next t ∧ t.permits = u.permits ∧
          handed t (.objectCount { target := id, serial := b.serial, day := b.day
                                   carried := ((firmByVehicle b.serial b.day u.permits.claims).take 4).map carriedOf })) ∧
      (u.permits.holder b.serial b.day b.key = none → u.permits.vehicles b.serial b.day < b.allowance →
        (∀ c f, u.permits.current = some (c, f) → c.of b.serial b.day = true →
          ∃ t, exec (.claimOpenFrame h b) s = .next t ∧
            handed t (.objectConcurrent { target := id, serial := b.serial, day := b.day, carried := carriedOf c }) ∧
            (claimPrecedes { id, openTime := b.openTime } c.ref = false → t.permits = u.permits) ∧
            (claimPrecedes { id, openTime := b.openTime } c.ref = true → c.state = .pending →
              t.permits = {
                claims := u.permits.claims.map fun x => if x.inFlight then { x with state := .waiting } else x
                flight := some { f with
                  window := none, waitFor := some { id, openTime := b.openTime }, waitTimer := some 10 } })) ∧
        ((∀ x ∈ u.permits.claims, x.inFlight = true → x.of b.serial b.day = false) →
          ∀ before c after, u.permits.claims = before ++ c :: after → c.of b.serial b.day = true → c.key = b.key →
            c.state = .provisional →
            (∀ x ∈ before, x.of b.serial b.day = true → x.key = b.key → x.state ≠ .provisional) → c ∉ before →
            (claimPrecedes c.ref { id, openTime := b.openTime } = true →
              ∃ t, exec (.claimOpenFrame h b) s = .next t ∧ t.permits = u.permits ∧
                handed t (.objectConcurrent { target := id, serial := b.serial, day := b.day, carried := carriedOf c })) ∧
            (claimPrecedes c.ref { id, openTime := b.openTime } = false → u.permits.claims.length ≤ 160 →
              ∃ t, exec (.claimOpenFrame h b) s = .next t ∧ t.permits.flight = u.permits.flight ∧
                t.permits.claims = before ++ after ++ [
                  { serial := b.serial, day := b.day, key := b.key, id, openTime := b.openTime, state := .provisional
                    ageing := some 30 }]))))

/-- R112, R117, R120: an accepted CLAIM FIRM leaves a FIRM claim of its id in a list with room that held no claim of the
vehicle; a PROVISIONAL claim of its id becomes FIRM, its ageing stopped, in its place; an accepted CLAIM RELEASE leaves no
PROVISIONAL claim of its id. Either ends the wait of a claim in flight that waits for that id. One of a day gone by is
ignored. -/
def Obligations.FirmAndReleaseFramesMerge : Prop :=
  (∀ (s u : State) (h : RxHeader) (r : Running) (b : ClaimFirmBody), Accepts s h (fixedForm h .claim 17) false r u →
    (b.day < u.today → ∃ t, exec (.claimFirmFrame h b) s = .next t ∧ t.permits = u.permits ∧ t.ret = u.ret) ∧
    (u.today ≤ b.day → (∃ c ∈ u.permits.claims, c.id = ClaimId.mk h.origin b.idSeq ∧ c.state = .provisional) →
      (∀ c f, u.permits.current = some (c, f) → f.waitFor.map ClaimRef.id ≠ some (ClaimId.mk h.origin b.idSeq)) →
      ∃ t, exec (.claimFirmFrame h b) s = .next t ∧ t.permits.flight = u.permits.flight ∧
        t.permits.claims = u.permits.claims.map (fun c =>
          if c.id = ClaimId.mk h.origin b.idSeq ∧ c.state = .provisional then { c with state := .firm, ageing := none }
          else c) ∧ t.cash = u.cash ∧ t.ret = u.ret ∧ t.stay = u.stay) ∧
    (u.today ≤ b.day → ∀ c f, u.permits.current = some (c, f) → c.state = .waiting →
      f.waitFor.map ClaimRef.id = some (ClaimId.mk h.origin b.idSeq) →
      ∃ t, exec (.claimFirmFrame h b) s = .next t ∧ ∀ x ∈ t.permits.claims, x.state ≠ .waiting)) ∧
  (∀ (s u : State) (h : RxHeader) (r : Running) (b : ClaimReleaseBody), Accepts s h (fixedForm h .claim 17) false r u →
    (b.day < u.today → ∃ t, exec (.claimReleaseFrame h b) s = .next t ∧ t.permits = u.permits ∧ t.ret = u.ret) ∧
    (u.today ≤ b.day → ∀ c f, u.permits.current = some (c, f) → c.state = .waiting →
      f.waitFor.map ClaimRef.id = some (ClaimId.mk h.origin b.idSeq) →
      ∃ t, exec (.claimReleaseFrame h b) s = .next t ∧ ∀ x ∈ t.permits.claims, x.state ≠ .waiting)) ∧
  (∀ (s u : State) (h : RxHeader) (r : Running) (b : ClaimFirmBody), Accepts s h (fixedForm h .claim 17) false r u →
    u.today ≤ b.day → u.permits.claims.length < 160 →
    (∀ c ∈ u.permits.claims, c.id ≠ ClaimId.mk h.origin b.idSeq ∧
      (c.of b.serial b.day = true → c.key ≠ b.key)) →
    ∃ t, exec (.claimFirmFrame h b) s = .next t ∧
      (∃ c ∈ t.permits.claims, c.id = ClaimId.mk h.origin b.idSeq ∧ c.state = .firm ∧ c.key = b.key ∧
        c.serial = b.serial ∧ c.day = b.day ∧ c.openTime = b.openTime) ∧ t.cash = u.cash ∧ t.ret.box = u.ret.box) ∧
  ∀ (s u : State) (h : RxHeader) (r : Running) (b : ClaimReleaseBody), Accepts s h (fixedForm h .claim 17) false r u →
    u.today ≤ b.day →
    ∃ t, exec (.claimReleaseFrame h b) s = .next t ∧
      (∀ c ∈ t.permits.claims, c.id = ClaimId.mk h.origin b.idSeq → c.state ≠ .provisional) ∧ t.cash = u.cash ∧
      t.ret.box = u.ret.box

/-- R114, R116, R117, R120: an accepted OBJECT HELD for the claim in flight ends it; an accepted OBJECT CONCURRENT carrying a
claim that precedes the PENDING claim in flight makes it WAIT 10 seconds for that claim; an accepted OBJECT COUNT for no own
claim merges its claim as FIRM. An accepted OBJECT COUNT for the claim in flight merges its claims as FIRM and judges it: it
ends, is left as it stands while it waits or its OPEN awaits transmission, or is opened again, a fourth OPEN ending it. A late
OBJECT CONCURRENT, for a claim of this station no longer in flight (known by its target's origin, log 48), has its claim
merged as FIRM; for another station's claim it is ignored. That what the claim hands comes before the relayed copy is the
model's choice (log 13). -/
def Obligations.ObjectFramesDecide : Prop :=
  (∀ (s u : State) (h : RxHeader) (r : Running) (b : ObjectOneBody) (c : Claim) (f : Flight),
    Accepts s h (fixedForm h .urgent 18) false r u → u.permits.targeted b.target = some (c, f) →
    ∃ t, exec (.objectHeldFrame h b) s = .next t ∧ t.permits.flight = none ∧
      (∀ x ∈ t.permits.claims, x.inFlight = false) ∧ t.cash = u.cash ∧ t.ret.box = u.ret.box) ∧
  (∀ (s u : State) (h : RxHeader) (r : Running) (b : ObjectOneBody) (c : Claim) (f : Flight),
    Accepts s h (fixedForm h .urgent 18) false r u → u.permits.targeted b.target = some (c, f) → c.state = .pending →
    claimPrecedes { id := b.carried.id, openTime := b.carried.openTime } c.ref = true →
    ∃ t, exec (.objectConcurrentFrame h b) s = .next t ∧
      t.permits.claims = u.permits.claims.map (fun x => if x.inFlight then { x with state := .waiting } else x) ∧
      t.permits.flight = some { f with
        window := none, waitFor := some { id := b.carried.id, openTime := b.carried.openTime }, waitTimer := some 10 } ∧
      t.cash = u.cash ∧ t.ret = u.ret) ∧
  (∀ (s u : State) (h : RxHeader) (r : Running) (b : ObjectOneBody),
    Accepts s h (fixedForm h .urgent 18) false r u → u.permits.targeted b.target = none →
    (b.target.origin ≠ r.number →
      ∃ t, exec (.objectConcurrentFrame h b) s = .next t ∧ t.permits = u.permits ∧ t.ret = u.ret) ∧
    (b.target.origin = r.number → u.today ≤ b.day → u.permits.claims.length < 160 →
      (∀ c ∈ u.permits.claims, c.id ≠ b.carried.id) →
      ∃ t, exec (.objectConcurrentFrame h b) s = .next t ∧
        (t.permits.holder b.serial b.day b.carried.key).isSome = true ∧ t.cash = u.cash ∧ t.ret.box = u.ret.box)) ∧
  (∀ (s u : State) (h : RxHeader) (r : Running) (b : ObjectCountBody) (c : Claim) (f : Flight),
    Accepts s h { classOk := decide (h.cls = .urgent), length := 9 + 9 * b.carried.length, countOk := true } false r u →
    1 ≤ b.carried.length → b.carried.length ≤ 4 → (u.permits.targeted b.target).isSome = true →
    let merged := (b.carried.map (claimOf b.serial b.day)).foldl State.mergeFirm u
    merged.permits.targeted b.target = some (c, f) →
    (∀ o, flightVerdict merged.permits c f = some o →
      ∃ t, exec (.objectCountFrame h b) s = .next t ∧ t.permits.flight = none ∧
        t.permits.claims = merged.permits.claims.filter fun x => !x.inFlight) ∧
    (flightVerdict merged.permits c f = none → c.state = .waiting ∨ f.awaiting = true →
      ∃ t, exec (.objectCountFrame h b) s = .next t ∧ t.permits = merged.permits) ∧
    (flightVerdict merged.permits c f = none → c.state = .pending → f.awaiting = false →
      (3 ≤ f.attempts → ∃ t, exec (.objectCountFrame h b) s = .next t ∧ t.permits.flight = none ∧
        t.permits.claims = merged.permits.claims.filter fun x => !x.inFlight) ∧
      (f.attempts < 3 → merged.chan.queue.length < 16 →
        ∃ t, exec (.objectCountFrame h b) s = .next t ∧
          t.permits.flight = some { f with attempts := f.attempts + 1, window := none, awaiting := true } ∧
          ownEntry (.claimOpen (openBody c f.allowance (f.attempts + 1))) r.number ((merged.ret.seq + 1) % 65536) ∈
            t.chan.queue))) ∧
  ∀ (s u : State) (h : RxHeader) (r : Running) (b : ObjectCountBody) (x : CarriedClaim),
    Accepts s h (fixedForm h .urgent 18) false r u → b.carried = [x] → u.permits.targeted b.target = none →
    u.today ≤ b.day → u.permits.claims.length < 160 → (∀ c ∈ u.permits.claims, c.id ≠ x.id) →
    ∃ t, exec (.objectCountFrame h b) s = .next t ∧ (t.permits.holder b.serial b.day x.key).isSome = true ∧
      t.cash = u.cash ∧ t.ret.box = u.ret.box

/-- R16, R142, R143: a round heard that has not expired: an accepted ROUND OPEN is adopted by a station without a round, and
relayed; an accepted ROUND ENTRY of the current round is filed in it; an accepted ROUND CLOSE of the current round closes it.
A round that precedes the OPEN current one becomes current, the other's entries folded into it: the own station's entries are
summed with the later time, and of another station's the later stands; the last collection follows. A round that the OPEN
current one precedes is ignored. A CLOSED round is replaced by a heard one of later opening time, and an empty table takes
any, from an OPEN with its collector, from an ENTRY with its collector and entry, and from a STATUS with neither; a CLOSED
round stands against one not later. That of equal last collection times the winner's entry stands is deduced (log 35), and
that a list that holds thirty entries takes another is the model's choice (log 47). -/
def Obligations.RoundFramesMerge : Prop :=
  (∀ (s u : State) (h : RxHeader) (r : Running) (b : RoundEntryBody) (y : Round),
    Accepts s h (fixedForm h .claim 22) false r u → roundExpired b.id u.ret.clock.time = false →
    u.ret.round = some y → y.isOpen = true → b.id ≠ y.id →
    (roundPrecedes b.id y.id = true →
      ∃ t, exec (.roundEntryFrame h b) s = .next t ∧
        t.ret.round = some { id := b.id, collector := b.collector, isOpen := true
                             entries := y.entries.foldl (foldEntry r.number) [b.entry], unplaced := y.unplaced } ∧
        t.ret.lastCollection = u.ret.lastCollection.map (fun c =>
          if c.round = some y.id then { c with round := some b.id } else c) ∧
        t.cash = u.cash ∧ t.permits = u.permits ∧ t.ret.box = u.ret.box) ∧
    (roundPrecedes b.id y.id = false →
      ∃ t, exec (.roundEntryFrame h b) s = .next t ∧ t.ret = u.ret ∧ t.cash = u.cash ∧ t.permits = u.permits)) ∧
  (∀ (s u : State) (h : RxHeader) (r : Running) (b : RoundOpenBody), Accepts s h (fixedForm h .claim 22) false r u →
    roundExpired b.id u.ret.clock.time = false → ∀ y, u.ret.round = some y → y.isOpen = false → b.id ≠ y.id →
    (y.id.time < b.id.time →
      ∃ t, exec (.roundOpenFrame h b) s = .next t ∧
        t.ret = { u.ret with round := some (Round.mk b.id b.collector true [] none) } ∧ t.cash = u.cash ∧
        t.permits = u.permits ∧ t.stay = u.stay) ∧
    (b.id.time ≤ y.id.time →
      ∃ t, exec (.roundOpenFrame h b) s = .next t ∧ t.ret = u.ret ∧ t.cash = u.cash ∧ t.permits = u.permits)) ∧
  (∀ (s u : State) (h : RxHeader) (r : Running) (b : RoundEntryBody), Accepts s h (fixedForm h .claim 22) false r u →
    roundExpired b.id u.ret.clock.time = false →
    ((∀ y, u.ret.round = some y → y.isOpen = false ∧ b.id ≠ y.id ∧ y.id.time < b.id.time) →
      ∃ t, exec (.roundEntryFrame h b) s = .next t ∧
        t.ret = { u.ret with round := some (Round.mk b.id b.collector true [b.entry] none) } ∧ t.cash = u.cash ∧
        t.permits = u.permits ∧ t.stay = u.stay) ∧
    ∀ y, u.ret.round = some y → y.isOpen = false → b.id ≠ y.id → b.id.time ≤ y.id.time →
      ∃ t, exec (.roundEntryFrame h b) s = .next t ∧ t.ret = u.ret ∧ t.cash = u.cash ∧ t.permits = u.permits) ∧
  (∀ (s u : State) (h : RxHeader) (r : Running) (b : StatusBody) (id : RoundId),
    Accepts s h (fixedForm h .record 12) true r u → b.round = some id → roundExpired id u.ret.clock.time = false →
    ((∀ y, u.ret.round = some y → y.isOpen = false ∧ id ≠ y.id ∧ y.id.time < id.time) →
      ∃ t, exec (.statusFrame h b) s = .next t ∧ t.ret.round = some (Round.mk id none true [] none) ∧
        t.ret.lastCollection = u.ret.lastCollection ∧ t.ret.box = u.ret.box ∧ t.cash = u.cash ∧ t.permits = u.permits) ∧
    ∀ y, u.ret.round = some y → y.isOpen = false → id.time ≤ y.id.time →
      ∃ t, exec (.statusFrame h b) s = .next t ∧ t.ret.round = u.ret.round ∧ t.cash = u.cash ∧ t.permits = u.permits) ∧
  (∀ (own : Nat) (es : List RoundEntry) (e : RoundEntry), es.Pairwise (fun x y => x.station < y.station) →
    (foldEntry own es e).Pairwise (fun x y => x.station < y.station) ∧
    (∀ n, n ≠ e.station → (foldEntry own es e).find? (fun x => decide (x.station = n)) =
      es.find? fun x => decide (x.station = n)) ∧
    ((∀ x ∈ es, x.station ≠ e.station) → e ∈ foldEntry own es e) ∧
    ∀ x ∈ es, x.station = e.station →
      (e.station = own → RoundEntry.mk own (max x.lastAt e.lastAt) (addLong x.items e.items) (addLong x.value e.value) ∈
        foldEntry own es e) ∧
      (e.station ≠ own → (if x.lastAt < e.lastAt then e else x) ∈ foldEntry own es e)) ∧
  (∀ (s u : State) (h : RxHeader) (r : Running) (b : RoundOpenBody), Accepts s h (fixedForm h .claim 22) false r u →
    roundExpired b.id u.ret.clock.time = false → u.ret.round = none →
    ∃ t, exec (.roundOpenFrame h b) s = .next t ∧
      t.ret = { u.ret with round := some (Round.mk b.id b.collector true [] none) } ∧ t.cash = u.cash ∧
      t.chan.queue = relayed u.chan.queue h r.config.hopLimit (.roundOpen b) ∧
      t.permits = u.permits ∧ t.stay = u.stay) ∧
  (∀ (s u : State) (h : RxHeader) (r : Running) (b : RoundEntryBody) (x : Round),
    Accepts s h (fixedForm h .claim 22) false r u → roundExpired b.id u.ret.clock.time = false →
    u.ret.round = some x → x.id = b.id →
    ∃ t, exec (.roundEntryFrame h b) s = .next t ∧
      t.ret = { u.ret with
        round := some { x with collector := x.collector.or b.collector, entries := mergeEntry x.entries b.entry } } ∧
      t.cash = u.cash ∧
      t.permits = u.permits ∧ t.stay = u.stay) ∧
  ∀ (s u : State) (h : RxHeader) (r : Running) (b : RoundCloseBody) (x : Round),
    Accepts s h (fixedForm h .claim 22) false r u → roundExpired b.id u.ret.clock.time = false →
    u.ret.round = some x → x.id = b.id →
    ∃ t, exec (.roundCloseFrame h b) s = .next t ∧ t.ret = { u.ret with round := some { x with isOpen := false } } ∧
      t.cash = u.cash ∧ t.permits = u.permits ∧ t.stay = u.stay

/-- R155, R157, R158: an accepted FAULT frame enters a sink's inbox with room; a full one drops it and sets the overflow flag.
An own report of the sink evicts from a full inbox the oldest report of severity INFO, and without one it is dropped and the
flag set. A station that is no sink repeats the frame when its own distance is below 7 and below the sender's, one hop on,
held at 3; that it does so whatever the frame's relay-allowed flag is the model's choice (log 77). -/
def Obligations.FaultFrameMovesToSink : Prop :=
  (∀ (s : State) (n : Nat) (x : FaultReport), s.isSink = true → 64 ≤ s.faults.inbox.length →
    (∀ before o after, s.faults.inbox = before ++ o :: after → (∀ y ∈ before, y.report.severity ≠ .info) →
      o.report.severity = .info →
      (s.dealReport n x).faults.inbox = before ++ after ++
        [{ report := { x with origin := s.own }, seq := none, enteredAt := s.ret.clock.time }] ∧
      ((s.dealReport n x).faults.overflow = s.faults.overflow)) ∧
    ((∀ y ∈ s.faults.inbox, y.report.severity ≠ .info) →
      (s.dealReport n x).faults.inbox = s.faults.inbox ∧ (s.dealReport n x).faults.overflow = true)) ∧
  ∀ (s u : State) (h : RxHeader) (r : Running) (b : FaultBody),
    Accepts s h (fixedForm h (faultClass b.report) 15) false r u →
    (u.isSink = true → u.faults.inbox.length < 64 →
      ∃ t, exec (.faultFrame h b) s = .next t ∧ t.chan = u.chan ∧ t.ret = u.ret ∧
        t.faults.inbox = u.faults.inbox ++ [
          { report := { b.report with origin := h.origin }, seq := some h.seq, enteredAt := u.ret.clock.time }]) ∧
    (u.isSink = true → 64 ≤ u.faults.inbox.length →
      ∃ t, exec (.faultFrame h b) s = .next t ∧ t.chan = u.chan ∧ t.ret = u.ret ∧
        t.faults = { u.faults with overflow := true }) ∧
    (u.isSink = false → u.chan.distance < 7 → u.chan.distance < b.distance → u.chan.queue.length < 16 →
      (∀ e ∈ u.chan.queue, ¬(e.origin = h.origin ∧ e.seq = h.seq)) →
      ∃ t, exec (.faultFrame h b) s = .next t ∧ t.ret = u.ret ∧ t.faults = u.faults ∧
        t.chan.queue = u.chan.queue ++ [
          { body := .fault 0 { b.report with origin := h.origin }, origin := h.origin, seq := h.seq
            hop := min (h.hop + 1) 3, relay := h.relay, cls := h.cls, copy := true, sending := false }]) ∧
    (u.isSink = false → (7 ≤ u.chan.distance ∨ b.distance ≤ u.chan.distance) →
      ∃ t, exec (.faultFrame h b) s = .next t ∧ t.ret = u.ret ∧ t.faults = u.faults ∧ t.chan = u.chan)

/-- R17, R21, R93, R145, R156: the status timer restarts at its expiry, and with room and no report deferred a STATUS is
queued, with one re-announcement of up to 4 records in a BULK STAY frame, unless an own one waits, and the own entry of the
OPEN round in a ROUND ENTRY frame, unless an own one waits. The records are the first 4 with the unannounced mark, in table
order, and in the places left live ones in rotation from the cursor, which takes the key of the last of these and else stays.
A deferred report is offered again at a distance below 7, and admitted it leaves its entry with last reported at the time; a
direct timer's expiry takes the direct flag, a silence timer's makes the entry UNHEARD, and three quiet periods end DUPLICATE
STATION. -/
def Obligations.LinkTimersExpire : Prop :=
  (∀ (s : State) (r : Running), s.supply.power = true → s.link.running = some r → s.chan.statusTimer.isSome = true →
    ∃ t, exec .statusTimerExpiry s = .next t ∧ t.chan.statusTimer = some r.config.statusPeriod ∧
      t.chan.neighbours = s.chan.neighbours ∧ t.ret.clock = s.ret.clock ∧ t.permits = s.permits ∧ t.cash = s.cash ∧
      t.stay.entries.map StayEntry.record = s.stay.entries.map StayEntry.record ∧
      (r.number ≠ 0 → s.chan.queue.length ≤ 13 → s.deferredReports = [] →
        ∃ e ∈ t.chan.queue, e.isOwnStatus = true ∧ e.sending = false) ∧
      (let first := (s.stay.entries.filter StayEntry.unannounced).take 4
       let order : List StayEntry := match s.stay.cursor with
         | none => s.stay.entries
         | some k => s.stay.entries.filter (fun e => k.before (tableKey e.record)) ++
             s.stay.entries.filter fun e => !k.before (tableKey e.record)
       let second := (order.filter fun e => decide (s.ret.clock.time < e.record.expiry) && !e.unannounced).take
         (4 - first.length)
       let records := (first ++ second).map StayEntry.record
       let waits := s.chan.queue.any fun e => e.isOwnBulkStay && !e.sending
       t.stay.cursor = (if waits then s.stay.cursor
         else match second.getLast? with
           | some e => some (tableKey e.record)
           | none => s.stay.cursor) ∧
       (r.number ≠ 0 → s.chan.queue.length ≤ 13 → s.deferredReports = [] → waits = false → records ≠ [] →
         ∃ e ∈ t.chan.queue, e.body = .stay records true ∧ e.cls = .bulk ∧ e.relay = false ∧ e.copy = false ∧
           e.sending = false)) ∧
      (∀ x y, s.ret.round = some x → x.isOpen = true → x.entryOf r.number = some y → r.number ≠ 0 →
        s.chan.queue.length ≤ 13 → s.deferredReports = [] →
        ∃ e ∈ t.chan.queue, e.isOwnRoundEntry = true ∧ e.sending = false ∧
          ((∀ e' ∈ s.chan.queue, e'.isOwnRoundEntry = false ∨ e'.sending = true) →
            e.body = .roundEntry { id := x.id, collector := x.collector, entry := y })) ∧
      (r.number ≠ 0 → r.config.sink = false → s.chan.distance < 7 → s.chan.queue.length ≤ 12 →
        s.faults.table.length = 22 → ∀ d, s.deferredReports = [d] →
        (t.faultEntry d.report.kind).lastReported = some s.ret.clock.time ∧
          (t.faultEntry d.report.kind).deferred = none ∧
          ∃ e ∈ t.chan.queue, e.body = .fault d.made { d.report with origin := r.number } ∧ e.copy = false ∧
            e.sending = false)) ∧
  (∀ (s : State) (n : Nat), s.supply.power = true → 1 ≤ n → n ≤ s.chan.neighbours.length →
    ((s.neighbour n).directTimer.isSome = true →
      ∃ t, exec (.directTimerExpiry n) s = .next t ∧ t.neighbour n = (s.neighbour n).directOver ∧
        t.chan.distance = t.distanceNow ∧ t.ret.clock = s.ret.clock ∧ t.permits = s.permits) ∧
    ((s.neighbour n).silenceTimer.isSome = true →
      ∃ t, exec (.silenceTimerExpiry n) s = .next t ∧ t.neighbour n = Neighbour.initial ∧
        t.chan.distance = t.distanceNow ∧ t.ret.clock = s.ret.clock ∧ t.permits = s.permits)) ∧
  ∀ s : State, s.supply.power = true → s.chan.duplicateTimer.isSome = true →
    ∃ t, exec .duplicateStationExpiry s = .next t ∧ t.chan.duplicateTimer = none ∧
      t.faultActive .duplicateStation = false ∧ t.ret.clock = s.ret.clock ∧ t.permits = s.permits ∧ t.cash = s.cash

/-- R23: NEIGHBOURS READ gives the own number, mode, hop limit and distance, and for each station number whose entry is not
UNHEARD, in order, an item with the entry's fields; it changes no block. In LOCAL mode it gives no items. -/
def Obligations.NeighboursReadGives : Prop :=
  ∀ (s : State) (r : Running), s.LinkFree r →
    ∃ t, exec .neighboursRead s = .next t ∧ t.walk = none ∧ SameBlocks s t ∧
      t.Answered 22 (.done (.neighbours
        { number := r.number, mode := r.config.mode, hopLimit := r.config.hopLimit, distance := s.chan.distance
          items := if r.number = 0 then []
            else (List.range s.chan.neighbours.length).filterMap fun i =>
              if (s.neighbour (i + 1)).state = .unheard then none
              else some { station := i + 1, state := (s.neighbour (i + 1)).state
                          direct := (s.neighbour (i + 1)).direct, lastHeard := (s.neighbour (i + 1)).lastHeard
                          disputed := (s.neighbour (i + 1)).disputed, reported := (s.neighbour (i + 1)).reported } }))

/-! ### Formats -/

/-- R173, 10.1, 10.2: a CLAIM or ROUND frame sent is heard as the frame command with the same header and body: for every
frame whose fields fit their widths, what is read from the bytes sent is what was sent, and its check agrees. -/
def Obligations.ClaimAndRoundFramesReadBack : Prop :=
  ∀ f : AirFrame, wfHeader (heardHeader f) = true → (heardHeader f).checkAgrees = true ∧
    (∀ b, f.body = .claimOpen b → Instr.wf (.claimOpenFrame (heardHeader f) b) = true →
      readAir (frameBytes f) = some (.claimOpenFrame (heardHeader f) b)) ∧
    (∀ b, f.body = .claimFirm b → Instr.wf (.claimFirmFrame (heardHeader f) b) = true →
      readAir (frameBytes f) = some (.claimFirmFrame (heardHeader f) b)) ∧
    (∀ b, f.body = .claimRelease b → Instr.wf (.claimReleaseFrame (heardHeader f) b) = true →
      readAir (frameBytes f) = some (.claimReleaseFrame (heardHeader f) b)) ∧
    (∀ b, f.body = .roundOpen b → Instr.wf (.roundOpenFrame (heardHeader f) b) = true →
      readAir (frameBytes f) = some (.roundOpenFrame (heardHeader f) b)) ∧
    (∀ b, f.body = .roundEntry b → Instr.wf (.roundEntryFrame (heardHeader f) b) = true →
      readAir (frameBytes f) = some (.roundEntryFrame (heardHeader f) b)) ∧
    ∀ b, f.body = .roundClose b → Instr.wf (.roundCloseFrame (heardHeader f) b) = true →
      readAir (frameBytes f) = some (.roundCloseFrame (heardHeader f) b)

/-- 10.3: the 48 bytes of a carried stay record whose fields fit their widths are read back as that record. -/
def Obligations.CarriedRecordReadsBack : Prop :=
  ∀ r : StayRecord, wfRecord r = true → (recordBytes r).length = 48 ∧ readRecord (recordBytes r) = r

/-! ### Invariants -/

/-- R26, R45: every step keeps zone time and epoch in their ranges and the staging area in its canonical form. -/
def Obligations.StepKeepsClockAndStaging : Prop :=
  ∀ s t : State, clockInRange s → stagingInForm s → step s = .next t → clockInRange t ∧ stagingInForm t

/-- R151: every step keeps the service state the one derived from the fault table and the compartment; while main power is
present it is therefore HOLD exactly when the door is OPEN or the box ABSENT. -/
def Obligations.StepKeepsServiceDerived : Prop :=
  (∀ s t : State, serviceDerived s → step s = .next t → serviceDerived t) ∧
    ∀ s : State, serviceDerived s → s.supply.power = true → (s.faults.service = .hold ↔ s.compartmentOpen = true)

/-- R22: every step keeps the sink distance of a sink 0 and that of every other station between 1 and 7. -/
def Obligations.StepKeepsDistanceLegal : Prop :=
  ∀ s t : State, distanceLegal s → step s = .next t → distanceLegal t

/-- R8, R20, R82, R106, R109, R126, R147, R153, R158: every step keeps every table within its size, the stay table in table
order without two records of one identity, at most one own claim in flight, and the box counters in balance: the value total is
the sum of counts times values, and cash-sales value plus cash-excess value. -/
def Obligations.StepKeepsTablesBounded : Prop :=
  (∀ s t : State, s.Bounded → step s = .next t → t.Bounded) ∧
  (∀ s t : State, s.Bounded → s.StayOrdered → step s = .next t → t.StayOrdered) ∧
  (∀ s t : State, s.OneFlight → step s = .next t → t.OneFlight) ∧
  ∀ s t : State, s.BoxBalanced → step s = .next t → t.BoxBalanced

/-- The state after reset is a start's, and has every invariant of the model. -/
def Obligations.ResetHasInvariants : Prop :=
  clockInRange State.reset ∧ stagingInForm State.reset ∧ serviceDerived State.reset ∧ distanceLegal State.reset ∧
    State.reset.Bounded ∧ State.reset.StayOrdered ∧ State.reset.OneFlight ∧ State.reset.BoxBalanced ∧
    State.reset.faults.service = .outOfService ∧ State.reset.link.running = none ∧
    State.reset.ret = Retained.initial
end

