-- ==== Sys2Proof/Laws/Octets.lean ====
section
/-! SUPPORT. Bytes and the check: how long a value's bytes are, what is read back from them, and what stands before a check. -/

namespace Sys2Proof.Machine

@[simp] theorem length_toBytes (k n : Nat) : (toBytes k n).length = k := by
  induction k with
  | zero => rfl
  | succ k ih => simp [toBytes, ih]

/-- R173: bytes sent most significant first, read after a value already read. -/
theorem foldl_toBytes (k n a : Nat) :
    (toBytes k n).foldl (fun acc b => acc * 256 + b.toNat) a = a * 256 ^ k + n % 256 ^ k := by
  induction k generalizing a with
  | zero => simp [toBytes, Nat.mod_one]
  | succ k ih =>
    have e : n % 256 ^ (k + 1) = n / 256 ^ k % 256 * 256 ^ k + n % 256 ^ k := by
      rw [Nat.pow_succ, Nat.mod_mul]; ring
    simp only [toBytes, List.foldl_cons, ih, BitVec.toNat_ofNat, e]
    ring

/-- R173: a value that fits k bytes is read back from them. -/
theorem bigEndian_toBytes {k n : Nat} (h : n < 256 ^ k) : bigEndian (toBytes k n) = n := by
  simp [bigEndian, foldl_toBytes, Nat.mod_eq_of_lt h]

@[simp] theorem length_withCheck (bs : List Byte) : (withCheck bs).length = bs.length + 2 := by simp [withCheck]

@[simp] theorem beforeCheck_withCheck (bs : List Byte) : beforeCheck (withCheck bs) = bs := by
  simp [beforeCheck, withCheck]

end Sys2Proof.Machine
end

