-- ==== Sys2Proof/Laws/State.lean ====
section
/-! SUPPORT. What each named update of the state leaves and what it sets: one lemma for each field of each update, and the
same for the end of a step. -/

namespace Sys2Proof.Machine

variable (s : State)

@[simp] theorem setSupply_supply (v : Supply) : (s.setSupply v).supply = v := rfl
@[simp] theorem setSupply_ret (v : Supply) : (s.setSupply v).ret = s.ret := rfl
@[simp] theorem setSupply_chan (v : Supply) : (s.setSupply v).chan = s.chan := rfl
@[simp] theorem setSupply_day (v : Supply) : (s.setSupply v).day = s.day := rfl
@[simp] theorem setSupply_staging (v : Supply) : (s.setSupply v).staging = s.staging := rfl
@[simp] theorem setSupply_walk (v : Supply) : (s.setSupply v).walk = s.walk := rfl
@[simp] theorem setSupply_stay (v : Supply) : (s.setSupply v).stay = s.stay := rfl
@[simp] theorem setSupply_permits (v : Supply) : (s.setSupply v).permits = s.permits := rfl
@[simp] theorem setSupply_cash (v : Supply) : (s.setSupply v).cash = s.cash := rfl
@[simp] theorem setSupply_faults (v : Supply) : (s.setSupply v).faults = s.faults := rfl
@[simp] theorem setSupply_link (v : Supply) : (s.setSupply v).link = s.link := rfl
@[simp] theorem setSupply_pending (v : Supply) : (s.setSupply v).pending = s.pending := rfl

@[simp] theorem setRet_supply (v : Retained) : (s.setRet v).supply = s.supply := rfl
@[simp] theorem setRet_ret (v : Retained) : (s.setRet v).ret = v := rfl
@[simp] theorem setRet_chan (v : Retained) : (s.setRet v).chan = s.chan := rfl
@[simp] theorem setRet_day (v : Retained) : (s.setRet v).day = s.day := rfl
@[simp] theorem setRet_staging (v : Retained) : (s.setRet v).staging = s.staging := rfl
@[simp] theorem setRet_walk (v : Retained) : (s.setRet v).walk = s.walk := rfl
@[simp] theorem setRet_stay (v : Retained) : (s.setRet v).stay = s.stay := rfl
@[simp] theorem setRet_permits (v : Retained) : (s.setRet v).permits = s.permits := rfl
@[simp] theorem setRet_cash (v : Retained) : (s.setRet v).cash = s.cash := rfl
@[simp] theorem setRet_faults (v : Retained) : (s.setRet v).faults = s.faults := rfl
@[simp] theorem setRet_link (v : Retained) : (s.setRet v).link = s.link := rfl
@[simp] theorem setRet_pending (v : Retained) : (s.setRet v).pending = s.pending := rfl

@[simp] theorem setChan_supply (v : ChannelBlock) : (s.setChan v).supply = s.supply := rfl
@[simp] theorem setChan_ret (v : ChannelBlock) : (s.setChan v).ret = s.ret := rfl
@[simp] theorem setChan_chan (v : ChannelBlock) : (s.setChan v).chan = v := rfl
@[simp] theorem setChan_day (v : ChannelBlock) : (s.setChan v).day = s.day := rfl
@[simp] theorem setChan_staging (v : ChannelBlock) : (s.setChan v).staging = s.staging := rfl
@[simp] theorem setChan_walk (v : ChannelBlock) : (s.setChan v).walk = s.walk := rfl
@[simp] theorem setChan_stay (v : ChannelBlock) : (s.setChan v).stay = s.stay := rfl
@[simp] theorem setChan_permits (v : ChannelBlock) : (s.setChan v).permits = s.permits := rfl
@[simp] theorem setChan_cash (v : ChannelBlock) : (s.setChan v).cash = s.cash := rfl
@[simp] theorem setChan_faults (v : ChannelBlock) : (s.setChan v).faults = s.faults := rfl
@[simp] theorem setChan_link (v : ChannelBlock) : (s.setChan v).link = s.link := rfl
@[simp] theorem setChan_pending (v : ChannelBlock) : (s.setChan v).pending = s.pending := rfl

@[simp] theorem setDay_supply (v : Nat) : (s.setDay v).supply = s.supply := rfl
@[simp] theorem setDay_ret (v : Nat) : (s.setDay v).ret = s.ret := rfl
@[simp] theorem setDay_chan (v : Nat) : (s.setDay v).chan = s.chan := rfl
@[simp] theorem setDay_day (v : Nat) : (s.setDay v).day = v := rfl
@[simp] theorem setDay_staging (v : Nat) : (s.setDay v).staging = s.staging := rfl
@[simp] theorem setDay_walk (v : Nat) : (s.setDay v).walk = s.walk := rfl
@[simp] theorem setDay_stay (v : Nat) : (s.setDay v).stay = s.stay := rfl
@[simp] theorem setDay_permits (v : Nat) : (s.setDay v).permits = s.permits := rfl
@[simp] theorem setDay_cash (v : Nat) : (s.setDay v).cash = s.cash := rfl
@[simp] theorem setDay_faults (v : Nat) : (s.setDay v).faults = s.faults := rfl
@[simp] theorem setDay_link (v : Nat) : (s.setDay v).link = s.link := rfl
@[simp] theorem setDay_pending (v : Nat) : (s.setDay v).pending = s.pending := rfl

@[simp] theorem setStaging_supply (v : List Host.Cell) : (s.setStaging v).supply = s.supply := rfl
@[simp] theorem setStaging_ret (v : List Host.Cell) : (s.setStaging v).ret = s.ret := rfl
@[simp] theorem setStaging_chan (v : List Host.Cell) : (s.setStaging v).chan = s.chan := rfl
@[simp] theorem setStaging_day (v : List Host.Cell) : (s.setStaging v).day = s.day := rfl
@[simp] theorem setStaging_staging (v : List Host.Cell) : (s.setStaging v).staging = v := rfl
@[simp] theorem setStaging_walk (v : List Host.Cell) : (s.setStaging v).walk = s.walk := rfl
@[simp] theorem setStaging_stay (v : List Host.Cell) : (s.setStaging v).stay = s.stay := rfl
@[simp] theorem setStaging_permits (v : List Host.Cell) : (s.setStaging v).permits = s.permits := rfl
@[simp] theorem setStaging_cash (v : List Host.Cell) : (s.setStaging v).cash = s.cash := rfl
@[simp] theorem setStaging_faults (v : List Host.Cell) : (s.setStaging v).faults = s.faults := rfl
@[simp] theorem setStaging_link (v : List Host.Cell) : (s.setStaging v).link = s.link := rfl
@[simp] theorem setStaging_pending (v : List Host.Cell) : (s.setStaging v).pending = s.pending := rfl

@[simp] theorem setWalk_supply (v : Option Walk) : (s.setWalk v).supply = s.supply := rfl
@[simp] theorem setWalk_ret (v : Option Walk) : (s.setWalk v).ret = s.ret := rfl
@[simp] theorem setWalk_chan (v : Option Walk) : (s.setWalk v).chan = s.chan := rfl
@[simp] theorem setWalk_day (v : Option Walk) : (s.setWalk v).day = s.day := rfl
@[simp] theorem setWalk_staging (v : Option Walk) : (s.setWalk v).staging = s.staging := rfl
@[simp] theorem setWalk_walk (v : Option Walk) : (s.setWalk v).walk = v := rfl
@[simp] theorem setWalk_stay (v : Option Walk) : (s.setWalk v).stay = s.stay := rfl
@[simp] theorem setWalk_permits (v : Option Walk) : (s.setWalk v).permits = s.permits := rfl
@[simp] theorem setWalk_cash (v : Option Walk) : (s.setWalk v).cash = s.cash := rfl
@[simp] theorem setWalk_faults (v : Option Walk) : (s.setWalk v).faults = s.faults := rfl
@[simp] theorem setWalk_link (v : Option Walk) : (s.setWalk v).link = s.link := rfl
@[simp] theorem setWalk_pending (v : Option Walk) : (s.setWalk v).pending = s.pending := rfl

@[simp] theorem setStay_supply (v : StayTable) : (s.setStay v).supply = s.supply := rfl
@[simp] theorem setStay_ret (v : StayTable) : (s.setStay v).ret = s.ret := rfl
@[simp] theorem setStay_chan (v : StayTable) : (s.setStay v).chan = s.chan := rfl
@[simp] theorem setStay_day (v : StayTable) : (s.setStay v).day = s.day := rfl
@[simp] theorem setStay_staging (v : StayTable) : (s.setStay v).staging = s.staging := rfl
@[simp] theorem setStay_walk (v : StayTable) : (s.setStay v).walk = s.walk := rfl
@[simp] theorem setStay_stay (v : StayTable) : (s.setStay v).stay = v := rfl
@[simp] theorem setStay_permits (v : StayTable) : (s.setStay v).permits = s.permits := rfl
@[simp] theorem setStay_cash (v : StayTable) : (s.setStay v).cash = s.cash := rfl
@[simp] theorem setStay_faults (v : StayTable) : (s.setStay v).faults = s.faults := rfl
@[simp] theorem setStay_link (v : StayTable) : (s.setStay v).link = s.link := rfl
@[simp] theorem setStay_pending (v : StayTable) : (s.setStay v).pending = s.pending := rfl

@[simp] theorem setPermits_supply (v : PermitBlock) : (s.setPermits v).supply = s.supply := rfl
@[simp] theorem setPermits_ret (v : PermitBlock) : (s.setPermits v).ret = s.ret := rfl
@[simp] theorem setPermits_chan (v : PermitBlock) : (s.setPermits v).chan = s.chan := rfl
@[simp] theorem setPermits_day (v : PermitBlock) : (s.setPermits v).day = s.day := rfl
@[simp] theorem setPermits_staging (v : PermitBlock) : (s.setPermits v).staging = s.staging := rfl
@[simp] theorem setPermits_walk (v : PermitBlock) : (s.setPermits v).walk = s.walk := rfl
@[simp] theorem setPermits_stay (v : PermitBlock) : (s.setPermits v).stay = s.stay := rfl
@[simp] theorem setPermits_permits (v : PermitBlock) : (s.setPermits v).permits = v := rfl
@[simp] theorem setPermits_cash (v : PermitBlock) : (s.setPermits v).cash = s.cash := rfl
@[simp] theorem setPermits_faults (v : PermitBlock) : (s.setPermits v).faults = s.faults := rfl
@[simp] theorem setPermits_link (v : PermitBlock) : (s.setPermits v).link = s.link := rfl
@[simp] theorem setPermits_pending (v : PermitBlock) : (s.setPermits v).pending = s.pending := rfl

@[simp] theorem setCash_supply (v : CashBlock) : (s.setCash v).supply = s.supply := rfl
@[simp] theorem setCash_ret (v : CashBlock) : (s.setCash v).ret = s.ret := rfl
@[simp] theorem setCash_chan (v : CashBlock) : (s.setCash v).chan = s.chan := rfl
@[simp] theorem setCash_day (v : CashBlock) : (s.setCash v).day = s.day := rfl
@[simp] theorem setCash_staging (v : CashBlock) : (s.setCash v).staging = s.staging := rfl
@[simp] theorem setCash_walk (v : CashBlock) : (s.setCash v).walk = s.walk := rfl
@[simp] theorem setCash_stay (v : CashBlock) : (s.setCash v).stay = s.stay := rfl
@[simp] theorem setCash_permits (v : CashBlock) : (s.setCash v).permits = s.permits := rfl
@[simp] theorem setCash_cash (v : CashBlock) : (s.setCash v).cash = v := rfl
@[simp] theorem setCash_faults (v : CashBlock) : (s.setCash v).faults = s.faults := rfl
@[simp] theorem setCash_link (v : CashBlock) : (s.setCash v).link = s.link := rfl
@[simp] theorem setCash_pending (v : CashBlock) : (s.setCash v).pending = s.pending := rfl

@[simp] theorem setFaults_supply (v : FaultBlock) : (s.setFaults v).supply = s.supply := rfl
@[simp] theorem setFaults_ret (v : FaultBlock) : (s.setFaults v).ret = s.ret := rfl
@[simp] theorem setFaults_chan (v : FaultBlock) : (s.setFaults v).chan = s.chan := rfl
@[simp] theorem setFaults_day (v : FaultBlock) : (s.setFaults v).day = s.day := rfl
@[simp] theorem setFaults_staging (v : FaultBlock) : (s.setFaults v).staging = s.staging := rfl
@[simp] theorem setFaults_walk (v : FaultBlock) : (s.setFaults v).walk = s.walk := rfl
@[simp] theorem setFaults_stay (v : FaultBlock) : (s.setFaults v).stay = s.stay := rfl
@[simp] theorem setFaults_permits (v : FaultBlock) : (s.setFaults v).permits = s.permits := rfl
@[simp] theorem setFaults_cash (v : FaultBlock) : (s.setFaults v).cash = s.cash := rfl
@[simp] theorem setFaults_faults (v : FaultBlock) : (s.setFaults v).faults = v := rfl
@[simp] theorem setFaults_link (v : FaultBlock) : (s.setFaults v).link = s.link := rfl
@[simp] theorem setFaults_pending (v : FaultBlock) : (s.setFaults v).pending = s.pending := rfl

@[simp] theorem setLink_supply (v : MachineLink) : (s.setLink v).supply = s.supply := rfl
@[simp] theorem setLink_ret (v : MachineLink) : (s.setLink v).ret = s.ret := rfl
@[simp] theorem setLink_chan (v : MachineLink) : (s.setLink v).chan = s.chan := rfl
@[simp] theorem setLink_day (v : MachineLink) : (s.setLink v).day = s.day := rfl
@[simp] theorem setLink_staging (v : MachineLink) : (s.setLink v).staging = s.staging := rfl
@[simp] theorem setLink_walk (v : MachineLink) : (s.setLink v).walk = s.walk := rfl
@[simp] theorem setLink_stay (v : MachineLink) : (s.setLink v).stay = s.stay := rfl
@[simp] theorem setLink_permits (v : MachineLink) : (s.setLink v).permits = s.permits := rfl
@[simp] theorem setLink_cash (v : MachineLink) : (s.setLink v).cash = s.cash := rfl
@[simp] theorem setLink_faults (v : MachineLink) : (s.setLink v).faults = s.faults := rfl
@[simp] theorem setLink_link (v : MachineLink) : (s.setLink v).link = v := rfl
@[simp] theorem setLink_pending (v : MachineLink) : (s.setLink v).pending = s.pending := rfl

@[simp] theorem setPending_supply (v : List Instr) : (s.setPending v).supply = s.supply := rfl
@[simp] theorem setPending_ret (v : List Instr) : (s.setPending v).ret = s.ret := rfl
@[simp] theorem setPending_chan (v : List Instr) : (s.setPending v).chan = s.chan := rfl
@[simp] theorem setPending_day (v : List Instr) : (s.setPending v).day = s.day := rfl
@[simp] theorem setPending_staging (v : List Instr) : (s.setPending v).staging = s.staging := rfl
@[simp] theorem setPending_walk (v : List Instr) : (s.setPending v).walk = s.walk := rfl
@[simp] theorem setPending_stay (v : List Instr) : (s.setPending v).stay = s.stay := rfl
@[simp] theorem setPending_permits (v : List Instr) : (s.setPending v).permits = s.permits := rfl
@[simp] theorem setPending_cash (v : List Instr) : (s.setPending v).cash = s.cash := rfl
@[simp] theorem setPending_faults (v : List Instr) : (s.setPending v).faults = s.faults := rfl
@[simp] theorem setPending_link (v : List Instr) : (s.setPending v).link = s.link := rfl
@[simp] theorem setPending_pending (v : List Instr) : (s.setPending v).pending = v := rfl

@[simp] theorem setClock_supply (v : Clock) : (s.setClock v).supply = s.supply := rfl
@[simp] theorem setClock_ret (v : Clock) : (s.setClock v).ret = { s.ret with clock := v } := rfl
@[simp] theorem setClock_chan (v : Clock) : (s.setClock v).chan = s.chan := rfl
@[simp] theorem setClock_day (v : Clock) : (s.setClock v).day = s.day := rfl
@[simp] theorem setClock_staging (v : Clock) : (s.setClock v).staging = s.staging := rfl
@[simp] theorem setClock_walk (v : Clock) : (s.setClock v).walk = s.walk := rfl
@[simp] theorem setClock_stay (v : Clock) : (s.setClock v).stay = s.stay := rfl
@[simp] theorem setClock_permits (v : Clock) : (s.setClock v).permits = s.permits := rfl
@[simp] theorem setClock_cash (v : Clock) : (s.setClock v).cash = s.cash := rfl
@[simp] theorem setClock_faults (v : Clock) : (s.setClock v).faults = s.faults := rfl
@[simp] theorem setClock_link (v : Clock) : (s.setClock v).link = s.link := rfl
@[simp] theorem setClock_pending (v : Clock) : (s.setClock v).pending = s.pending := rfl

@[simp] theorem setBox_supply (v : BoxCounters) : (s.setBox v).supply = s.supply := rfl
@[simp] theorem setBox_ret (v : BoxCounters) : (s.setBox v).ret = { s.ret with box := v } := rfl
@[simp] theorem setBox_chan (v : BoxCounters) : (s.setBox v).chan = s.chan := rfl
@[simp] theorem setBox_day (v : BoxCounters) : (s.setBox v).day = s.day := rfl
@[simp] theorem setBox_staging (v : BoxCounters) : (s.setBox v).staging = s.staging := rfl
@[simp] theorem setBox_walk (v : BoxCounters) : (s.setBox v).walk = s.walk := rfl
@[simp] theorem setBox_stay (v : BoxCounters) : (s.setBox v).stay = s.stay := rfl
@[simp] theorem setBox_permits (v : BoxCounters) : (s.setBox v).permits = s.permits := rfl
@[simp] theorem setBox_cash (v : BoxCounters) : (s.setBox v).cash = s.cash := rfl
@[simp] theorem setBox_faults (v : BoxCounters) : (s.setBox v).faults = s.faults := rfl
@[simp] theorem setBox_link (v : BoxCounters) : (s.setBox v).link = s.link := rfl
@[simp] theorem setBox_pending (v : BoxCounters) : (s.setBox v).pending = s.pending := rfl

@[simp] theorem setDoor_supply (v : DoorRecord) : (s.setDoor v).supply = s.supply := rfl
@[simp] theorem setDoor_ret (v : DoorRecord) : (s.setDoor v).ret = { s.ret with door := v } := rfl
@[simp] theorem setDoor_chan (v : DoorRecord) : (s.setDoor v).chan = s.chan := rfl
@[simp] theorem setDoor_day (v : DoorRecord) : (s.setDoor v).day = s.day := rfl
@[simp] theorem setDoor_staging (v : DoorRecord) : (s.setDoor v).staging = s.staging := rfl
@[simp] theorem setDoor_walk (v : DoorRecord) : (s.setDoor v).walk = s.walk := rfl
@[simp] theorem setDoor_stay (v : DoorRecord) : (s.setDoor v).stay = s.stay := rfl
@[simp] theorem setDoor_permits (v : DoorRecord) : (s.setDoor v).permits = s.permits := rfl
@[simp] theorem setDoor_cash (v : DoorRecord) : (s.setDoor v).cash = s.cash := rfl
@[simp] theorem setDoor_faults (v : DoorRecord) : (s.setDoor v).faults = s.faults := rfl
@[simp] theorem setDoor_link (v : DoorRecord) : (s.setDoor v).link = s.link := rfl
@[simp] theorem setDoor_pending (v : DoorRecord) : (s.setDoor v).pending = s.pending := rfl

@[simp] theorem setRound_supply (v : Option Round) : (s.setRound v).supply = s.supply := rfl
@[simp] theorem setRound_ret (v : Option Round) : (s.setRound v).ret = { s.ret with round := v } := rfl
@[simp] theorem setRound_chan (v : Option Round) : (s.setRound v).chan = s.chan := rfl
@[simp] theorem setRound_day (v : Option Round) : (s.setRound v).day = s.day := rfl
@[simp] theorem setRound_staging (v : Option Round) : (s.setRound v).staging = s.staging := rfl
@[simp] theorem setRound_walk (v : Option Round) : (s.setRound v).walk = s.walk := rfl
@[simp] theorem setRound_stay (v : Option Round) : (s.setRound v).stay = s.stay := rfl
@[simp] theorem setRound_permits (v : Option Round) : (s.setRound v).permits = s.permits := rfl
@[simp] theorem setRound_cash (v : Option Round) : (s.setRound v).cash = s.cash := rfl
@[simp] theorem setRound_faults (v : Option Round) : (s.setRound v).faults = s.faults := rfl
@[simp] theorem setRound_link (v : Option Round) : (s.setRound v).link = s.link := rfl
@[simp] theorem setRound_pending (v : Option Round) : (s.setRound v).pending = s.pending := rfl

@[simp] theorem setQueue_supply (v : List TxEntry) : (s.setQueue v).supply = s.supply := rfl
@[simp] theorem setQueue_ret (v : List TxEntry) : (s.setQueue v).ret = s.ret := rfl
@[simp] theorem setQueue_chan (v : List TxEntry) : (s.setQueue v).chan = { s.chan with queue := v } := rfl
@[simp] theorem setQueue_day (v : List TxEntry) : (s.setQueue v).day = s.day := rfl
@[simp] theorem setQueue_staging (v : List TxEntry) : (s.setQueue v).staging = s.staging := rfl
@[simp] theorem setQueue_walk (v : List TxEntry) : (s.setQueue v).walk = s.walk := rfl
@[simp] theorem setQueue_stay (v : List TxEntry) : (s.setQueue v).stay = s.stay := rfl
@[simp] theorem setQueue_permits (v : List TxEntry) : (s.setQueue v).permits = s.permits := rfl
@[simp] theorem setQueue_cash (v : List TxEntry) : (s.setQueue v).cash = s.cash := rfl
@[simp] theorem setQueue_faults (v : List TxEntry) : (s.setQueue v).faults = s.faults := rfl
@[simp] theorem setQueue_link (v : List TxEntry) : (s.setQueue v).link = s.link := rfl
@[simp] theorem setQueue_pending (v : List TxEntry) : (s.setQueue v).pending = s.pending := rfl

@[simp] theorem setDuplicateTimer_supply (v : Option Nat) : (s.setDuplicateTimer v).supply = s.supply := rfl
@[simp] theorem setDuplicateTimer_ret (v : Option Nat) : (s.setDuplicateTimer v).ret = s.ret := rfl
@[simp] theorem setDuplicateTimer_chan (v : Option Nat) : (s.setDuplicateTimer v).chan = { s.chan with duplicateTimer := v } := rfl
@[simp] theorem setDuplicateTimer_day (v : Option Nat) : (s.setDuplicateTimer v).day = s.day := rfl
@[simp] theorem setDuplicateTimer_staging (v : Option Nat) : (s.setDuplicateTimer v).staging = s.staging := rfl
@[simp] theorem setDuplicateTimer_walk (v : Option Nat) : (s.setDuplicateTimer v).walk = s.walk := rfl
@[simp] theorem setDuplicateTimer_stay (v : Option Nat) : (s.setDuplicateTimer v).stay = s.stay := rfl
@[simp] theorem setDuplicateTimer_permits (v : Option Nat) : (s.setDuplicateTimer v).permits = s.permits := rfl
@[simp] theorem setDuplicateTimer_cash (v : Option Nat) : (s.setDuplicateTimer v).cash = s.cash := rfl
@[simp] theorem setDuplicateTimer_faults (v : Option Nat) : (s.setDuplicateTimer v).faults = s.faults := rfl
@[simp] theorem setDuplicateTimer_link (v : Option Nat) : (s.setDuplicateTimer v).link = s.link := rfl
@[simp] theorem setDuplicateTimer_pending (v : Option Nat) : (s.setDuplicateTimer v).pending = s.pending := rfl

@[simp] theorem setEntries_supply (v : List StayEntry) : (s.setEntries v).supply = s.supply := rfl
@[simp] theorem setEntries_ret (v : List StayEntry) : (s.setEntries v).ret = s.ret := rfl
@[simp] theorem setEntries_chan (v : List StayEntry) : (s.setEntries v).chan = s.chan := rfl
@[simp] theorem setEntries_day (v : List StayEntry) : (s.setEntries v).day = s.day := rfl
@[simp] theorem setEntries_staging (v : List StayEntry) : (s.setEntries v).staging = s.staging := rfl
@[simp] theorem setEntries_walk (v : List StayEntry) : (s.setEntries v).walk = s.walk := rfl
@[simp] theorem setEntries_stay (v : List StayEntry) : (s.setEntries v).stay = { s.stay with entries := v } := rfl
@[simp] theorem setEntries_permits (v : List StayEntry) : (s.setEntries v).permits = s.permits := rfl
@[simp] theorem setEntries_cash (v : List StayEntry) : (s.setEntries v).cash = s.cash := rfl
@[simp] theorem setEntries_faults (v : List StayEntry) : (s.setEntries v).faults = s.faults := rfl
@[simp] theorem setEntries_link (v : List StayEntry) : (s.setEntries v).link = s.link := rfl
@[simp] theorem setEntries_pending (v : List StayEntry) : (s.setEntries v).pending = s.pending := rfl

@[simp] theorem setClaims_supply (v : List Claim) : (s.setClaims v).supply = s.supply := rfl
@[simp] theorem setClaims_ret (v : List Claim) : (s.setClaims v).ret = s.ret := rfl
@[simp] theorem setClaims_chan (v : List Claim) : (s.setClaims v).chan = s.chan := rfl
@[simp] theorem setClaims_day (v : List Claim) : (s.setClaims v).day = s.day := rfl
@[simp] theorem setClaims_staging (v : List Claim) : (s.setClaims v).staging = s.staging := rfl
@[simp] theorem setClaims_walk (v : List Claim) : (s.setClaims v).walk = s.walk := rfl
@[simp] theorem setClaims_stay (v : List Claim) : (s.setClaims v).stay = s.stay := rfl
@[simp] theorem setClaims_permits (v : List Claim) : (s.setClaims v).permits = { s.permits with claims := v } := rfl
@[simp] theorem setClaims_cash (v : List Claim) : (s.setClaims v).cash = s.cash := rfl
@[simp] theorem setClaims_faults (v : List Claim) : (s.setClaims v).faults = s.faults := rfl
@[simp] theorem setClaims_link (v : List Claim) : (s.setClaims v).link = s.link := rfl
@[simp] theorem setClaims_pending (v : List Claim) : (s.setClaims v).pending = s.pending := rfl

@[simp] theorem setFaultEntry_supply (k : FaultKind) (e : FaultEntry) : (s.setFaultEntry k e).supply = s.supply := rfl
@[simp] theorem setFaultEntry_ret (k : FaultKind) (e : FaultEntry) : (s.setFaultEntry k e).ret = s.ret := rfl
@[simp] theorem setFaultEntry_chan (k : FaultKind) (e : FaultEntry) : (s.setFaultEntry k e).chan = s.chan := rfl
@[simp] theorem setFaultEntry_day (k : FaultKind) (e : FaultEntry) : (s.setFaultEntry k e).day = s.day := rfl
@[simp] theorem setFaultEntry_staging (k : FaultKind) (e : FaultEntry) : (s.setFaultEntry k e).staging = s.staging := rfl
@[simp] theorem setFaultEntry_walk (k : FaultKind) (e : FaultEntry) : (s.setFaultEntry k e).walk = s.walk := rfl
@[simp] theorem setFaultEntry_stay (k : FaultKind) (e : FaultEntry) : (s.setFaultEntry k e).stay = s.stay := rfl
@[simp] theorem setFaultEntry_permits (k : FaultKind) (e : FaultEntry) : (s.setFaultEntry k e).permits = s.permits := rfl
@[simp] theorem setFaultEntry_cash (k : FaultKind) (e : FaultEntry) : (s.setFaultEntry k e).cash = s.cash := rfl
@[simp] theorem setFaultEntry_faults (k : FaultKind) (e : FaultEntry) : (s.setFaultEntry k e).faults = { s.faults with table := s.faults.table.set (faultCode k) e } := rfl
@[simp] theorem setFaultEntry_link (k : FaultKind) (e : FaultEntry) : (s.setFaultEntry k e).link = s.link := rfl
@[simp] theorem setFaultEntry_pending (k : FaultKind) (e : FaultEntry) : (s.setFaultEntry k e).pending = s.pending := rfl

@[simp] theorem setNeighbour_supply (n : Nat) (e : Neighbour) : (s.setNeighbour n e).supply = s.supply := rfl
@[simp] theorem setNeighbour_ret (n : Nat) (e : Neighbour) : (s.setNeighbour n e).ret = s.ret := rfl
@[simp] theorem setNeighbour_chan (n : Nat) (e : Neighbour) : (s.setNeighbour n e).chan = { s.chan with neighbours := s.chan.neighbours.set (n - 1) e } := rfl
@[simp] theorem setNeighbour_day (n : Nat) (e : Neighbour) : (s.setNeighbour n e).day = s.day := rfl
@[simp] theorem setNeighbour_staging (n : Nat) (e : Neighbour) : (s.setNeighbour n e).staging = s.staging := rfl
@[simp] theorem setNeighbour_walk (n : Nat) (e : Neighbour) : (s.setNeighbour n e).walk = s.walk := rfl
@[simp] theorem setNeighbour_stay (n : Nat) (e : Neighbour) : (s.setNeighbour n e).stay = s.stay := rfl
@[simp] theorem setNeighbour_permits (n : Nat) (e : Neighbour) : (s.setNeighbour n e).permits = s.permits := rfl
@[simp] theorem setNeighbour_cash (n : Nat) (e : Neighbour) : (s.setNeighbour n e).cash = s.cash := rfl
@[simp] theorem setNeighbour_faults (n : Nat) (e : Neighbour) : (s.setNeighbour n e).faults = s.faults := rfl
@[simp] theorem setNeighbour_link (n : Nat) (e : Neighbour) : (s.setNeighbour n e).link = s.link := rfl
@[simp] theorem setNeighbour_pending (n : Nat) (e : Neighbour) : (s.setNeighbour n e).pending = s.pending := rfl

@[simp] theorem settle_supply : s.settle.supply = s.supply := rfl
@[simp] theorem settle_ret : s.settle.ret = s.ret := rfl
@[simp] theorem settle_chan : s.settle.chan = s.chan := rfl
@[simp] theorem settle_day : s.settle.day = s.day := rfl
@[simp] theorem settle_staging : s.settle.staging = s.staging := rfl
@[simp] theorem settle_walk : s.settle.walk = s.walk := rfl
@[simp] theorem settle_stay : s.settle.stay = s.stay := rfl
@[simp] theorem settle_permits : s.settle.permits = s.permits := rfl
@[simp] theorem settle_cash : s.settle.cash = s.cash := rfl
@[simp] theorem settle_faults : s.settle.faults = s.faults := rfl
@[simp] theorem settle_pending : s.settle.pending = s.pending := rfl

/-- What fills the outbound mailbox touches the mailboxes, the overrun flag, the pending set and the count of choices. -/
theorem settle_running : s.settle.link.running = s.link.running := by
  unfold State.settle MachineLink.settle MachineLink.placeResponse MachineLink.placeNotice
  simp only [setLink_link]
  repeat' split
  all_goals rfl

theorem settle_reason : s.settle.link.reason = s.link.reason := by
  unfold State.settle MachineLink.settle MachineLink.placeResponse MachineLink.placeNotice
  simp only [setLink_link]
  repeat' split
  all_goals rfl

end Sys2Proof.Machine
end

