-- ==== Sys2Proof/Laws/Ops.lean ====
section
/-! SUPPORT. What raising and clearing a fault, reporting it, giving a notice and handing a frame leave alone: one lemma for
each shared operation of Machine/Ops.lean. -/

namespace Sys2Proof.Machine

/-- Two states that differ at most in the origin sequence counter, the transmit queue, the unannounced marks, the fault
unit, and the pending notices. -/
structure SameButReports (s t : State) : Prop where
  supply : t.supply = s.supply
  ret : ∃ q, t.ret = { s.ret with seq := q }
  chan : ∃ q, t.chan = { s.chan with queue := q }
  day : t.day = s.day
  staging : t.staging = s.staging
  walk : t.walk = s.walk
  records : t.stay.entries.map StayEntry.record = s.stay.entries.map StayEntry.record
  cursor : t.stay.cursor = s.stay.cursor
  permits : t.permits = s.permits
  cash : t.cash = s.cash
  liveness : t.faults.liveness = s.faults.liveness
  quiet : t.faults.quiet = s.faults.quiet
  link : ∃ n, t.link = { s.link with notices := n }
  pending : t.pending = s.pending

namespace SameButReports

theorem refl (s : State) : SameButReports s s := by
  constructor <;> first | rfl | exact ⟨_, rfl⟩

theorem trans {s t u : State} (h : SameButReports s t) (k : SameButReports t u) : SameButReports s u := by
  obtain ⟨a1, ⟨q, a2⟩, ⟨w, a3⟩, a4, a5, a6, a7, a8, a9, a10, a11, a12, ⟨n, a13⟩, a14⟩ := h
  obtain ⟨b1, ⟨q', b2⟩, ⟨w', b3⟩, b4, b5, b6, b7, b8, b9, b10, b11, b12, ⟨n', b13⟩, b14⟩ := k
  exact ⟨b1.trans a1, ⟨q', by rw [b2, a2]⟩, ⟨w', by rw [b3, a3]⟩, b4.trans a4, b5.trans a5, b6.trans a6, b7.trans a7,
    b8.trans a8, b9.trans a9, b10.trans a10, b11.trans a11, b12.trans a12, ⟨n', by rw [b13, a13]⟩, b14.trans a14⟩

end SameButReports

theorem sameBut_give (s : State) (b : NoticeBody) : SameButReports s (s.give b) := by
  unfold State.give
  split
  · exact .refl s
  · constructor <;> first | rfl | exact ⟨_, rfl⟩

theorem sameBut_setFaultEntry (s : State) (k : FaultKind) (e : FaultEntry) : SameButReports s (s.setFaultEntry k e) := by
  constructor <;> first | rfl | exact ⟨_, rfl⟩

theorem sameBut_setQueue (s : State) (q : List TxEntry) : SameButReports s (s.setQueue q) := by
  constructor <;> first | rfl | exact ⟨_, rfl⟩

theorem sameBut_deferAfterRefusal (s : State) (n : Nat) (r : FaultReport) :
    SameButReports s (s.deferAfterRefusal n r) := by
  unfold State.deferAfterRefusal
  dsimp only
  split
  · exact .refl s
  · exact sameBut_setFaultEntry s _ _

theorem sameBut_marks (s : State) (f : StayEntry → StayEntry) (hf : ∀ x, (f x).record = x.record) :
    SameButReports s (s.setEntries (s.stay.entries.map f)) := by
  constructor <;> first | rfl | exact ⟨_, rfl⟩ | skip
  simp [hf]

theorem sameBut_onEvicted (s : State) (e : TxEntry) : SameButReports s (s.onEvicted e) := by
  unfold State.onEvicted
  split
  · exact .refl s
  · split
    · exact sameBut_marks s _ fun x => by split <;> rfl
    · exact sameBut_deferAfterRefusal s _ _
    · exact .refl s

theorem sameBut_admitOwn (s : State) (b : QueuedBody) : SameButReports s (s.admitOwn b).1 := by
  constructor <;> first | rfl | exact ⟨_, rfl⟩

theorem sameBut_handOwn (s : State) (b : QueuedBody) : SameButReports s (s.handOwn b).1 := by
  unfold State.handOwn
  split
  · exact .refl s
  · split
    · exact .refl s
    · split
      · exact sameBut_admitOwn s b
      · split
        · split
          · exact .refl s
          · exact ((sameBut_setQueue s _).trans (sameBut_onEvicted _ _)).trans (sameBut_admitOwn _ b)
        · exact .refl s

theorem sameBut_handCopy (s : State) (b : QueuedBody) (o q h : Nat) (r : Bool) (c : FrameClass) :
    SameButReports s (s.handCopy b o q h r c) := by
  unfold State.handCopy
  split
  · exact sameBut_setQueue s _
  · exact .refl s

theorem sameBut_queueStatus (s : State) : SameButReports s s.queueStatus := by
  unfold State.queueStatus
  split
  · exact sameBut_handOwn s _
  · exact .refl s

theorem sameBut_toInbox (s : State) (r : FaultReport) (q : Option Nat) (own : Bool) :
    SameButReports s (s.toInbox r q own).1 := by
  unfold State.toInbox
  dsimp only
  have h : SameButReports s (s.setFaults { s.faults with
      inbox := (inboxAfter s.faults.inbox { report := r, seq := q, enteredAt := s.now } own).1,
      overflow := s.faults.overflow ||
        !(inboxAfter s.faults.inbox { report := r, seq := q, enteredAt := s.now } own).2 }) := by
    constructor <;> first | rfl | exact ⟨_, rfl⟩
  split
  · exact h.trans (sameBut_give _ _)
  · exact h

/-- R156: a deferred report gives way to the report of a clear, and to no other. -/
theorem givesWay_iff (d : MadeReport) (n : Nat) (r : FaultReport) :
    d.givesWay n r = true ↔ r.transition = .cleared ∧ d.made < n := by simp [MadeReport.givesWay]

theorem sameBut_markReported (s : State) (n : Nat) (r : FaultReport) : SameButReports s (s.markReported n r) :=
  sameBut_setFaultEntry s _ _

theorem sameBut_dealReport (s : State) (n : Nat) (r : FaultReport) : SameButReports s (s.dealReport n r) := by
  unfold State.dealReport
  dsimp only
  split
  · have h := sameBut_toInbox s { r with origin := s.own } none true
    split
    · exact h.trans (sameBut_markReported _ _ _)
    · exact h
  · split
    · have h := sameBut_handOwn s (.fault n { r with origin := s.own })
      split
      · rename_i e; rw [e] at h; exact h.trans (sameBut_deferAfterRefusal _ _ _)
      · rename_i e; rw [e] at h; exact h.trans (sameBut_markReported _ _ _)
    · exact sameBut_setFaultEntry s _ _

theorem sameBut_makeReport (s : State) (k : FaultKind) (t : Transition) : SameButReports s (s.makeReport k t) := by
  have h : SameButReports s (s.setFaults { s.faults with made := s.faults.made + 1 }) := by
    constructor <;> first | rfl | exact ⟨_, rfl⟩
  exact h.trans (sameBut_dealReport _ _ _)

theorem sameBut_derive (s : State) (c : ServiceCause) : SameButReports s (s.derive c) := by
  unfold State.derive
  dsimp only
  split
  · exact .refl s
  · have h : SameButReports s (s.setFaults { s.faults with service := s.derivedService }) := by
      constructor <;> first | rfl | exact ⟨_, rfl⟩
    exact (h.trans (sameBut_give _ _)).trans (sameBut_queueStatus _)

theorem sameBut_deriveIf (s : State) (l : Bool) (c : ServiceCause) : SameButReports s (s.deriveIf l c) := by
  unfold State.deriveIf
  split
  · exact sameBut_derive s c
  · exact .refl s

theorem sameBut_raiseIf (s : State) (l : Bool) (k : FaultKind) (d : Nat) : SameButReports s (s.raiseIf l k d) := by
  unfold State.raiseIf
  dsimp only
  split
  · exact (sameBut_setFaultEntry s _ _).trans (sameBut_makeReport _ _ _)
  · exact ((sameBut_setFaultEntry s _ _).trans (sameBut_makeReport _ _ _)).trans (sameBut_deriveIf _ _ _)

theorem sameBut_raise (s : State) (k : FaultKind) (d : Nat) : SameButReports s (s.raise k d) := sameBut_raiseIf s true k d

theorem sameBut_clearIf (s : State) (l : Bool) (k : FaultKind) : SameButReports s (s.clearIf l k) := by
  unfold State.clearIf
  dsimp only
  split
  · exact ((sameBut_setFaultEntry s _ _).trans (sameBut_makeReport _ _ _)).trans (sameBut_deriveIf _ _ _)
  · exact .refl s

theorem sameBut_clear (s : State) (k : FaultKind) : SameButReports s (s.clear k) := sameBut_clearIf s true k

theorem sameBut_offerOne (s : State) (d : MadeReport) : SameButReports s (s.offerOne d).1 := by
  unfold State.offerOne
  dsimp only
  split
  · have h := sameBut_toInbox s { d.report with origin := s.own } none true
    refine .trans ?_ (sameBut_setFaultEntry _ _ _)
    split
    · exact h.trans (sameBut_markReported _ _ _)
    · exact h
  · have h := sameBut_handOwn s (.fault d.made { d.report with origin := s.own })
    split
    · rename_i e; rw [e] at h; exact h
    · rename_i e; rw [e] at h
      exact (h.trans (sameBut_markReported _ _ _)).trans (sameBut_setFaultEntry _ _ _)

theorem sameBut_offerAll (ds : List MadeReport) : ∀ s : State, SameButReports s (s.offerAll ds) := by
  induction ds with
  | nil => exact .refl
  | cons d ds ih =>
    intro s
    have h := sameBut_offerOne s d
    unfold State.offerAll
    split
    · rename_i e; rw [e] at h; exact h.trans (ih _)
    · rename_i e; rw [e] at h; exact h

theorem sameBut_offerDeferred (s : State) : SameButReports s s.offerDeferred := sameBut_offerAll _ s

theorem sameBut_reconsiderClocks (s : State) : SameButReports s s.reconsiderClocks := by
  unfold State.reconsiderClocks
  split
  · split
    · exact .refl s
    · exact sameBut_raise s _ _
  · exact sameBut_clear s _

theorem sameBut_reconsiderTariffIf (s : State) (l : Bool) : SameButReports s (s.reconsiderTariffIf l) := by
  unfold State.reconsiderTariffIf
  split
  · exact sameBut_clearIf s _ _
  · split
    · exact .refl s
    · exact sameBut_raiseIf s _ _ _

/-- R22: after the distance is recomputed it is the one that the neighbours and the sink role give, and the rest is
unchanged but for what the offering of deferred reports touches. -/
theorem sameBut_recomputeDistance (s : State) :
    SameButReports (s.setChan { s.chan with distance := s.distanceNow }) s.recomputeDistance := by
  unfold State.recomputeDistance
  dsimp only
  split
  · exact sameBut_offerDeferred _
  · exact .refl _

end Sys2Proof.Machine
end

