-- ==== Sys2Proof/Laws/Staging.lean ====
section
/-! SUPPORT. The staging area: every write keeps its canonical form, reads what was written, and leaves other bytes. -/

namespace Sys2Proof.Machine

theorem stagingWf_iff (st : List Host.Cell) :
    stagingWf st = true ↔ st.Pairwise (fun x y => x.1 < y.1) ∧ ∀ x ∈ st, x.1 < stagingSize := by
  simp [stagingWf]

theorem stagingWf_nil : stagingWf [] = true := by decide

theorem mem_putByte (o : Nat) (b : Byte) (st : List Host.Cell) (x : Host.Cell) :
    x ∈ putByte o b st → x = (o, b) ∨ x ∈ st := by
  induction st with
  | nil => simp [putByte]
  | cons y ys ih =>
    simp only [putByte]
    split
    · simp
    · split
      · simp; tauto
      · simp only [List.mem_cons]; tauto

theorem pairwise_putByte (o : Nat) (b : Byte) (st : List Host.Cell) (h : st.Pairwise fun x y => x.1 < y.1) :
    (putByte o b st).Pairwise fun x y => x.1 < y.1 := by
  induction st with
  | nil => simp [putByte]
  | cons y ys ih =>
    rw [List.pairwise_cons] at h
    simp only [putByte]
    split
    · rename_i lt
      refine List.pairwise_cons.2 ⟨fun z hz => ?_, List.pairwise_cons.2 h⟩
      rcases List.mem_cons.1 hz with rfl | hz
      · exact lt
      · exact lt.trans (h.1 z hz)
    · rename_i nlt
      split
      · rename_i e
        exact List.pairwise_cons.2 ⟨fun z hz => by have := h.1 z hz; simp only [e]; exact this, h.2⟩
      · rename_i ne
        refine List.pairwise_cons.2 ⟨fun z hz => ?_, ih h.2⟩
        rcases mem_putByte o b ys z hz with rfl | hz
        · simp only; omega
        · exact h.1 z hz

theorem stagingWf_putByte (o : Nat) (b : Byte) (st : List Host.Cell) (ho : o < stagingSize)
    (h : stagingWf st = true) : stagingWf (putByte o b st) = true := by
  rw [stagingWf_iff] at *
  refine ⟨pairwise_putByte o b st h.1, fun x hx => ?_⟩
  rcases mem_putByte o b st x hx with rfl | hx
  · exact ho
  · exact h.2 x hx

/-- R46: a chunk inside the area keeps the canonical form. -/
theorem stagingWf_writeStaging (chunk : List Byte) : ∀ (st : List Host.Cell) (o : Nat),
    o + chunk.length ≤ stagingSize → stagingWf st = true → stagingWf (writeStaging st o chunk) = true := by
  induction chunk with
  | nil => intro st o _ h; exact h
  | cons b bs ih =>
    intro st o ho h
    simp only [List.length_cons] at ho
    exact ih _ _ (by omega) (stagingWf_putByte o b st (by omega) h)

theorem readStaging_putByte (o : Nat) (b : Byte) (st : List Host.Cell) (h : st.Pairwise fun x y => x.1 < y.1) (a : Nat) :
    readStaging (putByte o b st) a = if a = o then some b else readStaging st a := by
  induction st with
  | nil => by_cases e : o = a <;> simp [putByte, readStaging, e, eq_comm]
  | cons y ys ih =>
    rw [List.pairwise_cons] at h
    simp only [putByte]
    split
    · by_cases e : a = o
      · simp [readStaging, e]
      · have : ¬ o = a := fun x => e x.symm
        simp [readStaging, e, this]
    · split
      · rename_i e'
        by_cases e : a = o
        · simp [readStaging, e]
        · have h1 : ¬ o = a := fun x => e x.symm
          have h2 : ¬ y.1 = a := fun x => e (by omega)
          simp [readStaging, e, h1, h2]
      · rename_i ne
        have ih' := ih h.2
        by_cases e1 : y.1 = a
        · have : ¬ a = o := fun x => ne (by omega)
          simp [readStaging, e1, this]
        · simp only [readStaging, List.find?_cons, e1, decide_false] at ih' ⊢
          exact ih'

/-- R46: the bytes a chunk covers take the chunk's values, and the others are left as they stand. -/
theorem readStaging_writeStaging (chunk : List Byte) : ∀ (st : List Host.Cell) (o : Nat),
    st.Pairwise (fun x y => x.1 < y.1) → ∀ a,
      readStaging (writeStaging st o chunk) a =
        if o ≤ a ∧ a < o + chunk.length then chunk[a - o]? else readStaging st a := by
  induction chunk with
  | nil => intro st o _ a; simp [writeStaging]
  | cons b bs ih =>
    intro st o h a
    simp only [writeStaging, List.length_cons]
    rw [ih _ _ (pairwise_putByte o b st h), readStaging_putByte o b st h]
    by_cases e : a = o
    · subst e; simp
    · by_cases h1 : o + 1 ≤ a ∧ a < o + 1 + bs.length
      · have h2 : o ≤ a ∧ a < o + (bs.length + 1) := by omega
        rw [if_pos h1, if_pos h2]
        obtain ⟨k, rfl⟩ : ∃ k, a = o + 1 + k := ⟨a - (o + 1), by omega⟩
        have e1 : o + 1 + k - (o + 1) = k := by omega
        have e2 : o + 1 + k - o = k + 1 := by omega
        simp [e1, e2]
      · have h2 : ¬ (o ≤ a ∧ a < o + (bs.length + 1)) := by omega
        rw [if_neg h1, if_neg h2, if_neg e]

end Sys2Proof.Machine
end

