-- ==== Sys2Proof/Tests/Slice0.lean ====
section
/-! SUPPORT. Tests of the model against the spec's own examples, the well-formedness smoke, and for every obligation a witness
that its hypotheses can be met. -/

namespace Sys2Proof.Tests

open Sys2Proof Sys2Proof.Machine

/-! ### The spec's examples -/

/-- Chapter 3, "a table of two programmes": table 12 version 3. -/
def table12 : TariffTable :=
  { name := ⟨12, 3⟩
    activation := 777600000
    programmes := [
      [⟨0, .free, none, 0, 0⟩, ⟨480, .charged, some 0, 240, 60⟩, ⟨1110, .charged, some 1, 0, 0⟩, ⟨1320, .free, none, 0, 0⟩],
      [⟨0, .free, none, 0, 0⟩]]
    ladders := [[⟨0, 15, 90⟩, ⟨60, 10, 100⟩, ⟨120, 5, 70⟩], [⟨0, 30, 50⟩]]
    weekdays := [0, 0, 0, 0, 0, 0, 1], overrides := [⟨9000, 1⟩], minimum := 50, dayCap := 2000
    treatments := ⟨.exempt, .discount 50, .discount 25, .fullPrice⟩ }

/-- Charged minutes bought, gross, price, excess, expiry and clamp reason of a walk's result. -/
def summary (w : Walk) : Option (Nat × Nat × Nat × Nat × Nat × ClampReason) :=
  match walkOutcome w with
  | .result r => some (r.bought, r.gross, r.price, r.excess, r.expiry, r.clamp)
  | .refused _ _ => none

/-- R28's example: zone time 777,607,200 lies in tariff day 9000, weekday index 3, minute of day 120. -/
theorem test_calendar : tariffDay 777607200 = 9000 ∧ weekday 9000 = 3 ∧ minuteOfDay 777607200 = 120 := by decide

/-- Worked case 1: 600 p at 17:52:05 on day 9001, held by the max stay. -/
theorem test_worked_case_1 : summary (beginWalk table12 777750725 (.amount 600) 0 none none) =
    some (240, 565, 565, 35, 777765120, .maxStay) := by decide +kernel

/-- R5's example: station 7 with a CLAIM frame contends in slot 37. -/
theorem test_slot : ownSlot .claim 7 = 37 := by decide

/-- Chapter 1, "a de-duplication window", its first four rows from H = 1000 with 999 and 998 marked. -/
theorem test_dedupe_window :
    dedupe (some ⟨1000, 3⟩) 1002 = some ⟨1002, 14⟩ ∧ dedupe (some ⟨1002, 14⟩) 1001 = some ⟨1002, 15⟩ ∧
      dedupe (some ⟨1002, 15⟩) 1001 = none ∧ dedupe (some ⟨1002, 15⟩) 960 = none ∧
      follow (some ⟨1002, 15⟩) 12 true = ⟨12, 0⟩ := by decide

/-- Chapter 7, "one cash sale": 600 p as two 200 p and two 100 p items, price 565. -/
theorem test_cash_sale :
    BoxCounters.add ⟨[10, 20, 50, 100, 200], [4, 6, 12, 20, 8], 50, 4360, 4300, 60⟩ [0, 0, 0, 2, 2] 565 35 =
      ⟨[10, 20, 50, 100, 200], [4, 6, 12, 22, 10], 54, 4960, 4865, 95⟩ := by decide

/-- The CRC of R174 on the nine ASCII digits, its published check value. -/
theorem test_fault_class : /- R2's table, the kind's severity against the one carried -/
    faultClass ⟨9, .printer, .warning, .raised, 0, 0, false, 0, 0, 1⟩ = .urgent ∧
    faultClass ⟨9, .paperLow, .service, .raised, 0, 0, false, 0, 0, 1⟩ = .record := by decide

theorem test_check : checkOf ((List.range 9).map fun n => BitVec.ofNat 8 (0x31 + n)) = 0x29B1 := by decide +kernel

/-! ### States for the tests -/

/-- A configuration. -/
def cfg : Configuration :=
  { zone := 5, mode := .fair, hopLimit := 2, statusPeriod := 60, liveness := 30, sink := false
    denominations := [10, 100, 200], capacity := 1000, levels := List.replicate 10 .low }

/-- Station 7 under that configuration. -/
def run : Running := { number := 7, config := cfg }

/-- 10:00:00 on tariff day 9001. -/
def ten : Nat := 777722400

/-- Station 7 started, set, with table 12 active, its mailboxes empty and its channel in a window. -/
def up : State :=
  { State.reset with
    ret := { Retained.initial with
      clock := { time := ten, epoch := 1, set := true }, active := some table12, box := BoxCounters.zero [10, 100, 200] }
    chan := { ChannelBlock.initial with phase := .window none, statusTimer := some 60 }
    day := 9001
    cash := { CashBlock.initial with capacity := some 1000, band := some .normal }
    faults := { FaultBlock.initial with liveness := some 30 }
    link := { MachineLink.initial .cold 0 with running := some run } }

/-- A sink, and a station in LOCAL mode. -/
def sinkRun : Running := { number := 7, config := { cfg with sink := true } }
def localRun : Running := { number := 0, config := cfg }

/-- The station under another configuration. -/
def upAs (r : Running) : State := up.setLink { up.link with running := some r }

/-- The station with its link changed. -/
def withLink (f : MachineLink → MachineLink) : State := up.setLink (f up.link)

/-- The station with its retained store changed. -/
def withRet (f : Retained → Retained) : State := up.setRet (f up.ret)

/-- Power is absent, the backup marker reading as given. -/
def off (m : Marker) : State := State.reset.setSupply { State.reset.supply with power := false, marker := m }

/-- The reset line is held. -/
def held : State := up.setSupply { up.supply with resetHeld := true }

/-- A response of an earlier request. -/
def earlier : Response := { code := 16, result := .done, body := .empty, overrun := false }

/-- A notice. -/
def someNotice : Notice := { body := .hostQuiet 30, givenAt := 5 }

theorem up_free : up.LinkFree run := ⟨⟨rfl, rfl, rfl, rfl, rfl, rfl, by decide⟩, rfl⟩

theorem reset_open : State.reset.LinkOpen := ⟨rfl, rfl, rfl, rfl, rfl, rfl, by decide⟩

/-- A change of blocks that the link does not use leaves a free link free. -/
theorem free_of_blocks {s t : State} {r : Running} (h : s.LinkFree r) (hs : t.supply = s.supply) (hl : t.link = s.link)
    (hw : t.walk = s.walk) (hq : t.faults.quiet = s.faults.quiet) : t.LinkFree r :=
  ⟨⟨hs ▸ h.isOpen.power, hs ▸ h.isOpen.released, hl ▸ h.isOpen.inbound, hl ▸ h.isOpen.waiting, hl ▸ h.isOpen.outbound,
    hw ▸ h.isOpen.walk, hq ▸ h.isOpen.heard⟩, hl ▸ h.running⟩

theorem withRet_free (f : Retained → Retained) : (withRet f).LinkFree run := free_of_blocks up_free rfl rfl rfl rfl

theorem upAs_free (r : Running) : (upAs r).LinkFree r :=
  ⟨⟨rfl, rfl, rfl, rfl, rfl, rfl, (by decide : up.faults.quiet ≠ 2)⟩, rfl⟩

/-! ### Well-formed and ill-formed commands -/

/-- A header of a frame from station 9, over bytes with a right check. -/
def header (cls : FrameClass) (length : Nat) : RxHeader :=
  { zone := 5, sender := 9, origin := 9, seq := 100, hop := 0, relay := true, cls, time := 0, epoch := 0, timeSet := false
    bodyLength := length, codesAssigned := true, octets := withCheck (List.replicate (13 + length) 0) }

/-- A request frame of a code with a body of given bytes, laid out as 10.4 has it. -/
def written (code : Nat) (body : List Byte) (q : Option Request) : WrittenFrame :=
  { octets := requestBytes code body, spelled := q }

/-- A visitor book of zone 5 with allowance 2, and a resident's permit. -/
def book : PermitRecord :=
  { serial := 800123, classCode := 1, issuingZone := 5, validFrom := 0, validTo := 60000, boundKey := 0, allowance := some 2 }
def resident : PermitRecord := { book with classCode := 0, allowance := none }

/-- A stay record of station 9 for key 77, sold at 09:10 until 10:40 on day 9001. -/
def stay : StayRecord :=
  { id := ⟨9, 1, 777719400⟩, key := 77, kind := .paid, expiry := 777724800, minutes := 90, expiryDay := 9001
    dayMinutes := 90, dayAccrual := 39600, dayGross := 660, grossTotal := 660, paidTotal := 660, tariff := ⟨12, 3⟩
    maxStay := 240, noReturn := 60, extensions := 0, lastBy := none, permit := none }

/-- A fault report of station 9. -/
def report : FaultReport :=
  { origin := 9, kind := .printer, severity := .service, transition := .raised, eventTime := ten, eventEpoch := 1
    eventSet := true, raisedAt := ten, detail := 3, occurrences := 1 }

/-- A START for zone 5 at station 7. -/
def startReq : StartRequest :=
  { zone := 5, mode := some .fair, hopLimit := 2, statusPeriod := 60, liveness := 30, sink := some false
    denominations := [10, 100, 200], capacity := 1000, levels := List.replicate 10 (some .low), straps := 7 }

/-- Commands of every shape are well formed. -/
theorem test_wf_accepts :
    ([.start startReq, .setTime ten, .quote ⟨.amount 600, none, some 0, none⟩,
      .sell ⟨77, .duration 60, some stay.id, some resident, .cash [1, 2, 3]⟩, .lookup 77, .permitCheck book 77,
      .blockListLoad [BlockRange.inactive], .roundOpen 5 6, .mailboxWrite (written 23 [] none),
      .mailboxWrite ⟨[], some (.tariffLoad 0 [])⟩, .statusFrame (header .record 12) ⟨.inService, 1, .normal, none, none, 60⟩,
      .stayFrame (header .record 49) [stay], .claimOpenFrame (header .claim 17) ⟨0, 800123, 9001, 77, ten, 2, 1⟩,
      .objectHeldFrame (header .urgent 18) ⟨⟨7, 100⟩, 800123, 9001, ⟨⟨9, 99⟩, 77, ten⟩⟩,
      .roundEntryFrame (header .claim 22) ⟨⟨ten, 9⟩, some 4, ⟨9, ten, 140, 11260⟩⟩,
      .faultFrame (header .urgent 15) ⟨report, 3⟩, .contentionSlot 123, .directTimerExpiry 30,
      .ageingTimerExpiry ⟨9, 100⟩] : List Instr).all Instr.wf = true := by decide

/-- One ill-formed command for each check: straps, times, keys, identities, permits, tenders, ranges, requests written, header
fields and the frame's bytes, bodies, slots, stations and claim ids. -/
theorem test_wf_refuses :
    ([.start { startReq with straps := 32 }, .setTime 4294967296, .quote ⟨.amount 65536, none, none, none⟩,
      .quote ⟨.amount 600, some 4294967296, none, none⟩, .quote ⟨.amount 600, none, some 256, none⟩,
      .quote ⟨.amount 600, none, none, some ⟨256, 1, 0⟩⟩, .sell ⟨4294967296, .amount 1, none, none, .card⟩,
      .sell ⟨77, .amount 1, none, none, .cash [256]⟩, .sell ⟨77, .duration 65536, none, none, .card⟩,
      .sell ⟨77, .amount 1, none, some { book with issuingZone := 65536 }, .card⟩,
      .permitCheck { book with allowance := some 0 } 77, .claimVisitorDay book 4294967296, .lookup 4294967296,
      .blockListLoad [{ BlockRange.inactive with high := 4294967296 }], .roundOpen 4294967296 1,
      .mailboxWrite (written 14 [] (some (.roundOpen 1 4294967296))),
      .roundCloseFrame { header .claim 22 with bodyLength := 21 } ⟨⟨ten, 9⟩⟩,
      .statusFrame { header .record 12 with zone := 4096 } ⟨.inService, 1, .normal, none, none, 60⟩,
      .statusFrame (header .record 12) ⟨.inService, 256, .normal, none, none, 60⟩,
      .statusFrame (header .record 12) ⟨.inService, 1, .normal, some ⟨65536, 0⟩, none, 60⟩,
      .stayFrame (header .record 49) [{ stay with minutes := 2048 }],
      .claimOpenFrame (header .claim 17) ⟨0, 800123, 9001, 77, ten, 8, 1⟩,
      .claimFirmFrame (header .claim 17) ⟨65536, 800123, 9001, 77, ten⟩,
      .claimReleaseFrame (header .claim 17) ⟨0, 800123, 65536, 77⟩,
      .objectHeldFrame (header .urgent 18) ⟨⟨7, 100⟩, 800123, 9001, ⟨⟨9, 99⟩, 77, 0⟩⟩,
      .objectCountFrame (header .urgent 18) ⟨⟨32, 100⟩, 800123, 9001, []⟩,
      .objectConcurrentFrame (header .urgent 18) ⟨⟨7, 100⟩, 800123, 9001, ⟨⟨9, 99⟩, 77, ten + 100000⟩⟩,
      .roundOpenFrame (header .claim 22) ⟨⟨ten, 9⟩, some 0⟩, .roundEntryFrame (header .claim 22) ⟨⟨ten, 256⟩, none, ⟨9, ten, 1, 1⟩⟩,
      .roundEntryFrame (header .claim 22) ⟨⟨ten, 9⟩, none, ⟨9, ten, 4294967296, 1⟩⟩,
      .roundCloseFrame (header .claim 22) ⟨⟨4294967296, 9⟩⟩, .faultFrame (header .urgent 15) ⟨{ report with detail := 65536 }, 3⟩,
      .contentionSlot 124, .directTimerExpiry 0, .silenceTimerExpiry 31, .ageingTimerExpiry ⟨32, 0⟩] : List Instr).any
      Instr.wf = false := by decide

/-! ### Witnesses: the step and the machine link -/

theorem hyp_StepRunsFrontCommand :
    { up with pending := [.snapshot] }.pending = .snapshot :: [] ∧ up.pending = [] := ⟨rfl, rfl⟩

theorem hyp_WriteHeldBehindResponse : ∃ (s : State) (x : Response), s.supply.power = true ∧ s.supply.resetHeld = false ∧
    s.link.inbound = none ∧ s.link.outbound = some (.response x) ∧ s.faults.quiet ≠ 2 ∧
    goodRestart (heldFrame (written 17 [] none)) = false :=
  ⟨withLink fun l => { l with outbound := some (.response earlier) }, earlier, rfl, rfl, rfl, rfl, by decide, by decide +kernel⟩

theorem hyp_OccupiedWriteOverruns :
    (∃ s : State, s.supply.power = true ∧ s.supply.resetHeld = false ∧ s.link.inbound.isSome = true ∧
      s.link.waiting = none ∧ s.faults.quiet ≠ 2) ∧
    (∃ s : State, s.supply.power = true ∧ s.supply.resetHeld = false ∧ s.link.inbound.isSome = true ∧
      s.link.waiting = some earlier ∧ s.link.outbound.isSome = true ∧ s.faults.quiet ≠ 2) ∧
    ∃ s : State, s.supply.power = true ∧ s.supply.resetHeld = false ∧ s.link.running = some run ∧
      s.link.inbound.isSome = true ∧ s.faults.quiet = 2 :=
  ⟨⟨withLink fun l => { l with inbound := some (soundFrame .snapshot) }, rfl, rfl, rfl, rfl, by decide⟩,
    ⟨withLink fun l => { l with
        inbound := some (soundFrame .snapshot), waiting := some earlier, outbound := some (.notice someNotice) },
      rfl, rfl, rfl, rfl, rfl, by decide⟩,
    ⟨(withLink fun l => { l with inbound := some (soundFrame .snapshot) }).setFaults { up.faults with quiet := 2 },
      rfl, rfl, rfl, rfl, rfl⟩⟩

theorem hyp_RequestsGated :
    up.LinkFree run ∧ frameSound (heldFrame { octets := [17, 0, 0, 0, 0], spelled := none }) = false ∧
    checkRight [17, 0, 0, 0, 0] = false ∧ heldFrame (written 5 [] none) = ⟨true, true, .malformed 5⟩ ∧
    heldFrame (written 23 [] none) = ⟨true, true, .unknown 23⟩ ∧
    (∀ q, (⟨true, true, .malformed 5⟩ : LinkFrame).content ≠ .request q) ∧
    State.reset.LinkOpen ∧ State.reset.link.running = none ∧
    heldFrame (written 5 [0, 0, 9] (some (.tariffLoad 0 [9]))) = ⟨true, true, .request (.tariffLoad 0 [9])⟩ ∧
    4 < requestCode (.tariffLoad 0 [9]) :=
  ⟨up_free, by decide +kernel, by decide +kernel, by decide +kernel, by decide +kernel, fun _ => FrameContent.noConfusion,
    reset_open, rfl, by decide +kernel, by decide⟩

theorem hyp_MailboxReadRefills :
    (withLink fun l => { l with outbound := some (.notice someNotice), waiting := some earlier }).link.waiting = some earlier ∧
    (withLink fun l => { l with outbound := some (.notice someNotice) }).link.waiting = none ∧
    (withLink fun l => { l with outbound := some (.notice someNotice) }).link.inbound = none ∧
    (withLink fun l => { l with outbound := some (.notice someNotice) }).link.outbound.isSome = true ∧
    up.link.outbound = none ∧ up.link.waiting = none ∧ up.link.notices = [] ∧ up.supply.power = true ∧
    up.supply.resetHeld = false ∧
    (∃ u a, ((withLink fun l => { l with inbound := some (soundFrame .roundRead) }).setLink
      { up.link with inbound := some (soundFrame .roundRead), outbound := none }.refill).examine (soundFrame .roundRead) =
        (u, some a)) ∧
    up.link.level .door ≠ .off ∧ up.link.level .door = .low ∧
    (withLink fun l => { l with running := some { run with config := { cfg with levels := List.replicate 10 .high } } }).link.level
      .door = .high ∧
    (withLink fun l => { l with running := some { run with config := { cfg with levels := List.replicate 10 .off } } }).link.level
      .door = .off :=
  ⟨rfl, rfl, rfl, rfl, rfl, rfl, rfl, rfl, rfl, ⟨_, _, rfl⟩, by decide, rfl, rfl, rfl⟩

theorem hyp_StartTakesConfiguration :
    State.reset.LinkOpen ∧ State.reset.link.running = none ∧
    checkStart startReq State.reset.ret.box.items = .passes cfg (false, false, false, false) ∧
    checkStart { startReq with zone := 4096 } 0 = .refused .badZone ∧
    checkStart { startReq with sink := none } 0 = .malformed ∧ up.LinkFree run ∧
    ∃ s : State, s.LinkOpen ∧ s.link.running = none ∧ s.ret.box.items = 3 ∧
      checkStart { startReq with denominations := [20] } s.ret.box.items =
        .passes { cfg with denominations := [20] } (false, false, false, false) ∧ s.ret.box.denominations = [10] :=
  ⟨reset_open, rfl, by decide, by decide, by decide, up_free,
    State.reset.setBox { BoxCounters.zero [10] with items := 3 }, ⟨rfl, rfl, rfl, rfl, rfl, rfl, by decide⟩, rfl, rfl,
    by decide, rfl⟩

theorem hyp_QueryStatusGathers : State.reset.LinkOpen ∧ up.LinkOpen := ⟨reset_open, up_free.isOpen⟩

theorem hyp_SetTimeSteps : State.reset.LinkOpen ∧ 4294967295 ≤ zoneTimeMax ∧ State.reset.ret.clock.time ≤ 0 ∧
    up.LinkOpen ∧ ten - 1 < up.ret.clock.time := ⟨reset_open, by decide, by decide, up_free.isOpen, by decide⟩

/-! ### Witnesses: starts, main power, time -/

theorem hyp_WarmStartsTaken : up.supply.power = true ∧ up.supply.resetHeld = false ∧ up.link.inbound = none ∧
    held.supply.power = true ∧ held.supply.resetHeld = true ∧ held.link.inbound = none := ⟨rfl, rfl, rfl, rfl, rfl, rfl⟩

theorem hyp_MainPowerAndMarker :
    (off .valid).supply.power = false ∧ (off .valid).supply.reading false = .valid ∧
    (off .valid).supply.reading true = .broken ∧ (off .broken).supply.reading false = .broken ∧
    (off .blank).supply.reading true = .blank ∧ up.supply.power = true := ⟨rfl, rfl, rfl, rfl, rfl, rfl⟩

theorem hyp_SecondCountAdvances : up.supply.power = true ∧
    (withRet fun r => { r with clock := { r.clock with time := zoneTimeMax } }).ret.clock.time = zoneTimeMax ∧
    (∀ x, up.ret.awaiting = some x → ten + 1 < x.activation) ∧ (ten + 1) / 86400 = up.day :=
  ⟨rfl, rfl, (fun _ h => nomatch h), by decide⟩

/-! ### Witnesses: tariffs -/

/-- An image of table 12 of the given version with one FREE band, laid out as 10.6 has it. -/
def image (version activation : Nat) : List Byte :=
  [0, 35, 0, 12, 0, version, activation / 16777216, activation / 65536, activation / 256, activation, 1, 0, 0, 0, 50, 7, 208,
    254, 50, 25, 255, 0, 0, 0, 0, 0, 0, 0, 1, 0, 0, 64, 0, 0, 0].map (BitVec.ofNat 8)

/-- The station with that image staged. -/
def staged (version activation : Nat) : State := up.setStaging (writeStaging [] 0 (image version activation))

/-- That image as read, and its table. -/
def rawImage (version activation : Nat) : RawImage :=
  { name := ⟨12, version⟩, activation, minimum := 50, dayCap := 2000, treatments := [254, 50, 25, 255]
    weekdays := [0, 0, 0, 0, 0, 0, 0], programmes := [[⟨0, 1, 0, 0, 0⟩]], ladders := [], overrides := [] }
def imageTable (version activation : Nat) : TariffTable :=
  { name := ⟨12, version⟩, activation, programmes := [[⟨0, .free, none, 0, 0⟩]], ladders := [], weekdays := [0, 0, 0, 0, 0, 0, 0]
    overrides := [], minimum := 50, dayCap := 2000, treatments := ⟨.exempt, .discount 50, .discount 25, .fullPrice⟩ }

theorem staged_free (v a : Nat) : (staged v a).LinkFree run := free_of_blocks up_free rfl rfl rfl rfl

theorem hyp_TariffLoadWritesStaging : up.LinkFree run ∧ stagingWf up.staging = true ∧ stagingWf (staged 4 0).staging = true ∧
    (2047 + [(255 : Byte)].length ≤ 2048) ∧ 2048 < 2048 + [(255 : Byte)].length :=
  ⟨up_free, rfl, by decide +kernel, by decide, by decide⟩

theorem hyp_TariffCommitResolves :
    ((staged 4 0).LinkFree run ∧ readStaged (staged 4 0).staging = .ok (rawImage 4 0) ∧
      validate (rawImage 4 0) (up.ret.active.map TariffTable.name) = .ok (imageTable 4 0) ∧
      up.ret.clock.time < resolveActivation 0 up.ret.clock.time) ∧
    ((staged 4 ten).LinkFree run ∧ readStaged (staged 4 ten).staging = .ok (rawImage 4 ten) ∧
      validate (rawImage 4 ten) (up.ret.active.map TariffTable.name) = .ok (imageTable 4 ten) ∧
      resolveActivation ten up.ret.clock.time ≤ up.ret.clock.time) ∧
    ((staged 3 0).LinkFree run ∧ readStaged (staged 3 0).staging = .ok (rawImage 3 0) ∧
      validate (rawImage 3 0) (up.ret.active.map TariffTable.name) = .error (.versionNotNewer, .whole)) ∧
    up.LinkFree run ∧ readStaged up.staging = .error .nothingStaged :=
  ⟨⟨staged_free _ _, by decide +kernel, by decide +kernel, by decide⟩,
    ⟨staged_free _ _, by decide +kernel, by decide +kernel, by decide⟩,
    ⟨staged_free _ _, by decide +kernel, by decide +kernel⟩, up_free, rfl⟩

theorem hyp_TariffDiscardEmpties : (staged 4 0).LinkFree run := staged_free 4 0

theorem hyp_ProgrammeSelected : (⟨9000, 1⟩ : OverridePair) ∈ table12.overrides ∧
    (table12.overrides.map OverridePair.day).Nodup ∧ ∀ o ∈ table12.overrides, o.day ≠ 9001 := by decide

/-! ### Witnesses: charges and stays -/

/-- A DURATION QUOTE, and one that extends the stay. -/
def quoteReq : QuoteRequest := { asked := .duration 1440, start := none, treatment := some 2, extend := none }

/-- The station holding the stay of station 9. -/
def withStay : State := up.setStay { entries := [{ record := stay, unannounced := false }], cursor := none }

theorem withStay_free : withStay.LinkFree run := free_of_blocks up_free rfl rfl rfl rfl

theorem hyp_QuoteBeginsWalk :
    up.LinkFree run ∧ quoteForm { quoteReq with asked := .duration 1441 } = false ∧ quoteForm quoteReq = true ∧
    (withRet fun r => { r with clock := { r.clock with set := false } }).LinkFree run ∧
    (withRet fun r => { r with active := none }).LinkFree run ∧ up.ret.clock.set = true ∧ up.ret.active = some table12 ∧
    quoteDiscount table12 (some 2) = some 25 ∧ withStay.LinkFree run ∧ withStay.ret.active = some table12 ∧
    extensionRecord withStay.stay table12.name stay.id withStay.ret.clock.time = .ok stay :=
  ⟨up_free, by decide, by decide, withRet_free _, withRet_free _, rfl, rfl, rfl, withStay_free, rfl, rfl⟩

theorem hyp_PriceFromGross : 100 ≤ 100 ∧ 564 ≤ 565 := by decide

/-- The walk of worked case 1, and its result. -/
def caseOne : Walk := beginWalk table12 777750725 (.amount 600) 0 none none
def caseOneResult : WalkResult :=
  { asked := .amount 600, start := 777750725, expiry := 777765120, bought := 240, minutes := 240, gross := 565, discount := 0
    price := 565, excess := 35, clamp := .maxStay, tariff := ⟨12, 3⟩, limits := some (240, 60), expiryDay := 9001
    dayMinutes := 240, dayAccrual := 33880, dayGross := 565 }

theorem hyp_AmountWalkWithinMoney : walkOutcome caseOne = .result caseOneResult := by decide +kernel

/-- Worked case 5's direction at its end, 120 minutes from 21:30 sold as 30; and 300 minutes from 08:00, held by the max stay. -/
theorem hyp_DurationWalkWithinAsked :
    (match walkOutcome (beginWalk table12 777763800 (.duration 120) 0 none none) with
      | .result r => decide (r.bought = 30 ∧ r.clamp = .endOfCharging)
      | .refused _ _ => false) = true ∧
    (match walkOutcome (beginWalk table12 777715200 (.duration 300) 0 none none) with
      | .result r => decide (r.bought = 240 ∧ r.limits = some (240, 60))
      | .refused _ _ => false) = true := by decide +kernel

theorem hyp_WalkEndAnswersQuote :
    (up.setWalk (some caseOne)).supply.power = true ∧ (up.setWalk (some caseOne)).supply.resetHeld = false ∧
    (up.setWalk (some caseOne)).walk = some caseOne ∧ caseOne.sale = none ∧ walkOutcome caseOne = .result caseOneResult ∧
    walkOutcome { caseOne with asked := .amount 49 } = .refused .belowMinimum .unclamped :=
  ⟨rfl, rfl, rfl, rfl, hyp_AmountWalkWithinMoney, by decide +kernel⟩

/-- A SELL for key 78 with a BUSINESS permit, paid by card. -/
def sellReq : SellRequest :=
  { key := 78, asked := .duration 60, extend := none, permit := some { resident with classCode := 2 }, tender := .card }

/-- The station in HOLD. -/
def upHold : State := up.setFaults { up.faults with service := .hold }

/-- The station with one block-list range that refuses every class. -/
def blocking : State := withRet fun r =>
  { r with blockList := { low := 0, high := 4294967295, classes := ⟨true, true, true, true⟩, action := .refuse } :: r.blockList.tail }

theorem hyp_SellBeginsWalk :
    up.LinkFree run ∧ sellForm up.ret.box.denominations sellReq = true ∧
    (withRet fun r => { r with clock := { r.clock with set := false } }).LinkFree run ∧
    (withRet fun r => { r with active := none }).LinkFree run ∧ up.ret.clock.set = true ∧ up.ret.active = some table12 ∧
    upHold.LinkFree run ∧ upHold.standingRefusal .card = some (.refuse .hold) ∧
    withStay.LinkFree run ∧ withStay.standingRefusal .card = none ∧
    withStay.saleTarget table12 { sellReq with key := 77 } = .error (.refuse .liveSession (.holder stay.id stay.expiry)) ∧
    up.standingRefusal .card = none ∧ up.saleTarget table12 sellReq = .ok none ∧
    (up.salePermit { sellReq with permit := some resident } none).2 = .error .exempt ∧
    (up.salePermit sellReq none).2 = .ok (25, some { cls := .business, serial := 800123 }) :=
  ⟨up_free, by decide, withRet_free _, withRet_free _, rfl, rfl, free_of_blocks up_free rfl rfl rfl rfl, by decide,
    withStay_free, by decide, rfl, by decide, by decide, rfl, rfl⟩

/-- The terms of a cash sale of 600 p, and of a card sale. -/
def cashTerms : SaleTerms := { key := 78, tender := .cash [0, 2, 2], examined := [10, 100, 200], permit := none }
def cardTerms : SaleTerms := { key := 77, tender := .card, examined := [10, 100, 200], permit := none }

/-- Worked case 1 as the walk of a cash SELL. -/
def caseOneSale : Walk := { caseOne with sale := some cashTerms }

theorem hyp_WalkEndCommitsNewSession :
    (up.setWalk (some caseOneSale)).supply.power = true ∧ (up.setWalk (some caseOneSale)).supply.resetHeld = false ∧
    (up.setWalk (some caseOneSale)).walk = some caseOneSale ∧ caseOneSale.sale = some cashTerms ∧
    caseOneSale.continued = none ∧ walkOutcome caseOneSale = .result caseOneResult ∧
    completeSale cashTerms caseOneResult = some caseOneResult ∧
    (up.setWalk (some caseOneSale)).tenderChanged cashTerms = false ∧
    (up.setWalk (some caseOneSale)).stay.entries.length < 384 :=
  ⟨rfl, rfl, rfl, rfl, rfl, by decide +kernel, rfl, by decide, by decide⟩

/-- The stay extended from 90 to 120 charged minutes: 30 minutes of the step at 10 p a minute. -/
def extension : Walk := beginWalk table12 ten (.duration 120) 0 (some stay) (some cardTerms)
def extensionResult : WalkResult :=
  { asked := .duration 120, start := 777724800, expiry := 777726600, bought := 30, minutes := 120, gross := 300, discount := 0
    price := 300, excess := 0, clamp := .unclamped, tariff := ⟨12, 3⟩, limits := none, expiryDay := 9001, dayMinutes := 120
    dayAccrual := 57600, dayGross := 960 }

theorem hyp_WalkEndCommitsExtension :
    (withStay.setWalk (some extension)).supply.power = true ∧ (withStay.setWalk (some extension)).supply.resetHeld = false ∧
    (withStay.setWalk (some extension)).walk = some extension ∧ extension.sale = some cardTerms ∧
    extension.continued = some stay ∧ walkOutcome extension = .result extensionResult ∧
    completeSale cardTerms extensionResult = some extensionResult ∧
    foundAgain (withStay.setWalk (some extension)).stay stay extension.table.name = .ok stay ∧
    (withStay.setWalk (some extension)).tenderChanged cardTerms = false :=
  ⟨rfl, rfl, rfl, rfl, rfl, by decide +kernel, rfl, rfl, rfl⟩

theorem hyp_LookupFindsByKey : withStay.LinkFree run ∧ (withStay.stay.ofKey 77).length = 1 := ⟨withStay_free, by decide⟩

theorem hyp_RecordMergeRules :
    carriedOk stay = true ∧ up.ret.clock.time < retireTime stay ∧ up.stay.find stay.id = none ∧ up.stay.entries.length < 384 ∧
    carriedOk { stay with maxStay := 89 } = false ∧
    (withRet fun r => { r with clock := { r.clock with time := 777729000 } }).ret.clock.time = retireTime stay ∧
    withStay.stay.find stay.id = some { record := stay, unannounced := false } ∧
    carriedOk { stay with extensions := 1, lastBy := some 9 } = true ∧ stay.extensions < 1 ∧
    carriedOk { stay with expiry := stay.expiry + 60 } = true ∧ stay.expiry < stay.expiry + 60 := by decide

/-! ### Witnesses: permits -/

theorem hyp_PermitCheckAnswers :
    up.LinkFree run ∧ permitForm { book with allowance := some 5 } = none ∧ permitForm book = some .visitorBook ∧
    blockHit up.ret.blockList book.serial .visitorBook = none ∧ blocking.LinkFree run ∧
    blockHit blocking.ret.blockList book.serial .visitorBook = some (0, .refuse) ∧
    up.judgePermit { book with validFrom := 9002 } .visitorBook 77 = .error .notYetValid ∧
    up.judgePermit book .visitorBook 77 = .ok (.visitor 2) :=
  ⟨up_free, by decide, by decide, by decide, withRet_free _, by decide, by decide, by decide⟩

/-- A range of one serial. -/
def oneRange : BlockRange := { low := 5, high := 5, classes := ⟨true, false, false, false⟩, action := .note }

theorem hyp_BlockListLoadReplaces :
    up.LinkFree run ∧ (List.replicate 16 oneRange).length ≤ 16 ∧ (∀ x ∈ List.replicate 16 oneRange, x.low ≤ x.high) ∧
    [oneRange, { oneRange with high := 4 }][1]? = some { oneRange with high := 4 } ∧
    ({ oneRange with high := 4 } : BlockRange).high < oneRange.low ∧
    ∀ j y, j < 1 → [oneRange, { oneRange with high := 4 }][j]? = some y → y.low ≤ y.high :=
  ⟨up_free, by decide, by decide, rfl, by decide, fun j y hj hy => by
    obtain rfl : j = 0 := by omega
    cases hy; decide⟩

theorem hyp_ClaimVisitorDayOpens :
    (∃ u, up.LinkFree run ∧ 77 ≠ 0 ∧ permitForm book = some .visitorBook ∧ up.faults.service = .inService ∧
      (up.taking run (.claimVisitorDay book 77)).checkPermit book .visitorBook 77 .claimVisitorDay = (u, .ok (.visitor 2)) ∧
      claimRefusal u.permits book.serial u.today 77 2 = none ∧ run.number ≠ 0 ∧ u.chan.queue.length < 16) ∧
    ∃ u, (upAs localRun).LinkFree localRun ∧ permitForm book = some .visitorBook ∧ (upAs localRun).faults.service = .inService ∧
      ((upAs localRun).taking localRun (.claimVisitorDay book 77)).checkPermit book .visitorBook 77 .claimVisitorDay =
        (u, .ok (.visitor 2)) ∧
      claimRefusal u.permits book.serial u.today 77 2 = none ∧ localRun.number = 0 :=
  ⟨⟨up.taking run (.claimVisitorDay book 77), up_free, by decide, by decide, rfl, rfl, by decide, by decide, by decide⟩,
    ⟨(upAs localRun).taking localRun (.claimVisitorDay book 77), upAs_free _, by decide, rfl, rfl, by decide, rfl⟩⟩

/-- The own claim (7, 40) for key 77 on day 9001, a FIRM claim of another vehicle, and a PROVISIONAL one. -/
def ownClaim : Claim :=
  { serial := 800123, day := 9001, key := 77, id := ⟨7, 40⟩, openTime := ten, state := .pending, ageing := none }
def firmClaim : Claim := { ownClaim with key := 60, id := ⟨6, 2040⟩, openTime := ten - 3600, state := .firm }
def provClaim : Claim := { ownClaim with key := 61, id := ⟨9, 99⟩, state := .provisional, ageing := some 0 }
def flight : Flight :=
  { cls := .visitorBook, allowance := 2, attempts := 1, awaiting := false, sent := true, window := some 0, waitFor := none
    waitTimer := none }

/-- The station with given claims and what the claim in flight carries. -/
def claiming (cs : List Claim) (f : Option Flight) : State := up.setPermits { claims := cs, flight := f }

theorem hyp_ObjectionWindowGrants :
    (claiming [firmClaim, ownClaim] (some flight)).supply.power = true ∧
    (claiming [firmClaim, ownClaim] (some flight)).permits.current = some (ownClaim, flight) ∧ flight.window.isSome = true ∧
    flightVerdict (claiming [firmClaim, ownClaim] (some flight)).permits ownClaim flight = none ∧
    (claiming [firmClaim, ownClaim] (some flight)).stay.entries.length < 384 ∧
    (claiming [firmClaim, ownClaim] (some { flight with allowance := 1 })).permits.current =
      some (ownClaim, { flight with allowance := 1 }) ∧
    flightVerdict (claiming [firmClaim, ownClaim] none).permits ownClaim { flight with allowance := 1 } =
      some (.deniedAllowanceUsed 1) := by decide

theorem hyp_ClaimTimersExpire :
    (claiming [{ ownClaim with state := .waiting }] (some { flight with waitTimer := some 0 })).permits.current =
      some ({ ownClaim with state := .waiting }, { flight with waitTimer := some 0 }) ∧
    (claiming [provClaim] none).supply.power = true ∧ provClaim.state = .provisional ∧ provClaim.ageing.isSome = true := by
  decide

/-! ### Witnesses: cash, the door and rounds -/

/-- The door open and the box absent, on the lines and in the record. -/
def opened : State :=
  (up.setSupply { up.supply with doorOpen := true, boxAbsent := true }).setRet { up.ret with
    door := { DoorRecord.initial with doorOpen := true, boxAbsent := true, openedAt := some (ten - 600) } }

theorem hyp_DoorOpeningRecorded : up.supply.power = true ∧ up.supply.doorOpen = false ∧ up.faults.table.length = 22 ∧
    up.cash.auth = none ∧ (up.setCash { up.cash with auth := some ⟨5, 900⟩ }).cash.auth = some ⟨5, 900⟩ :=
  ⟨rfl, rfl, rfl, rfl, rfl⟩

theorem hyp_CompartmentCloses : opened.supply.power = true ∧ opened.supply.doorOpen = true ∧ opened.supply.boxAbsent = true :=
  ⟨rfl, rfl, rfl⟩

theorem hyp_BoxRemovalLatches : up.supply.power = true ∧ up.supply.boxAbsent = false := ⟨rfl, rfl⟩

theorem hyp_CashTimersExpire : ∃ s : State, s.supply.power = true ∧ s.cash.doorTimer.isSome = true ∧
    s.faults.table.length = 22 ∧ s.ret.door.openedAt = some (ten - 600) ∧ ten - 600 ≤ s.ret.clock.time :=
  ⟨opened.setCash { opened.cash with doorTimer := some 0 }, rfl, rfl, rfl, rfl, by decide⟩

/-- A snapshot. -/
def aSnapshot : Snapshot := { box := up.ret.box, time := ten, doorOpen := false, boxAbsent := false, round := none }

theorem hyp_SnapshotLatchedAndReleased : up.LinkFree run ∧ up.ret.snapshot = none ∧
    (withRet fun r => { r with snapshot := some aSnapshot }).LinkFree run := ⟨up_free, rfl, withRet_free _⟩

/-- A round opened by station 9. -/
def aRound : Round := { id := ⟨ten - 60, 9⟩, collector := some 4, isOpen := true, entries := [], unplaced := none }

theorem hyp_RoundOpenAuthorizes :
    up.LinkFree run ∧ up.compartmentOpen = false ∧ (∀ x, up.ret.round = some x → x.isOpen = false) ∧
    (withRet fun r => { r with round := some aRound }).LinkFree run ∧ aRound.isOpen = true ∧
    (withRet fun r => { r with door := opened.ret.door }).LinkFree run ∧
    (withRet fun r => { r with door := opened.ret.door }).compartmentOpen = true :=
  ⟨up_free, rfl, (fun _ h => nomatch h), withRet_free _, rfl, withRet_free _, rfl⟩

theorem hyp_RoundCloseAndRead :
    (withRet fun r => { r with round := some aRound }).LinkFree run ∧ aRound.isOpen = true ∧ up.LinkFree run ∧
    (∀ x, up.ret.round = some x → x.isOpen = false) := ⟨withRet_free _, rfl, up_free, (fun _ h => nomatch h)⟩

/-! ### Witnesses: faults -/

/-- The station with an active PRINTER fault. -/
def printerDown : State :=
  up.setFaultEntry .printer { FaultEntry.initial with active := true, raisedAt := some ten, occurrences := 1, refresh := some 0 }

theorem hyp_HostFaultsRaisedAndCleared :
    up.LinkFree run ∧ up.faults.table.length = 22 ∧ 8 ≤ 8 ∧ 65536 ≤ 65536 ∧ hostKind 7 = some .powerLow ∧ 65535 < 65536 ∧
    printerDown.LinkFree run ∧ hostKind 0 = some .printer ∧ printerDown.faultActive .printer = true ∧
    up.faultActive .printer = false :=
  ⟨up_free, rfl, by decide, by decide, rfl, by decide, free_of_blocks up_free rfl rfl rfl rfl, rfl, by decide, by decide⟩

theorem hyp_FaultReadGives : up.LinkFree run ∧ run.config.sink = false ∧ (upAs sinkRun).LinkFree sinkRun ∧
    sinkRun.config.sink = true := ⟨up_free, rfl, upAs_free _, rfl⟩

theorem hyp_FaultTimersExpire :
    up.supply.power = true ∧ up.link.running = some run ∧ up.faults.liveness.isSome = true ∧ up.faults.table.length = 22 ∧
    up.faults.quiet = 0 ∧ (up.setFaults { up.faults with quiet := 1 }).faults.quiet ≠ 0 ∧
    printerDown.supply.power = true ∧ printerDown.faultActive .printer = true ∧
    (printerDown.faultEntry .printer).refresh.isSome = true := by decide

/-! ### Witnesses: the zone channel -/

/-- The station in a channel phase. -/
def inPhase (p : ChannelPhase) : State := up.setChan { up.chan with phase := p }

theorem hyp_ChannelWindows : up.supply.power = true ∧ (inPhase (.window none)).chan.phase = .window none ∧
    (inPhase .gap).chan.phase = .gap ∧ (inPhase .carrier).chan.phase = .carrier := ⟨rfl, rfl, rfl, rfl⟩

/-- A queued CLAIM OPEN of this station. -/
def openEntry : TxEntry :=
  { body := .claimOpen ⟨0, 800123, 9001, 77, ten, 2, 1⟩, origin := 7, seq := 40, hop := 0, relay := true, cls := .claim
    copy := false, sending := false }

/-- Station 30 under the same configuration, and a BULK entry of it. -/
def run30 : Running := { number := 30, config := cfg }
def bulkEntry : TxEntry :=
  { body := .stay [stay] true, origin := 30, seq := 41, hop := 0, relay := false, cls := .bulk, copy := false
    sending := false }

/-- The station with one entry queued. -/
def queued (s : State) (e : TxEntry) (spent : Bool) : State := s.setChan { s.chan with queue := [e], spent }

theorem hyp_ContentionSlotTransmits :
    (queued up openEntry false).supply.power = true ∧ (queued up openEntry false).link.running = some run ∧
    (queued up openEntry false).chan.phase = .window none ∧
    queueHead (queued up openEntry false).chan.queue = some openEntry ∧ 37 = classBand openEntry.cls * 31 + (run.number - 1) ∧
    (queued (upAs run30) bulkEntry true).link.running = some run30 ∧
    queueHead (queued (upAs run30) bulkEntry true).chan.queue = some bulkEntry ∧ bulkEntry.cls ≠ .urgent ∧
    122 = classBand bulkEntry.cls * 31 + (run30.number - 1) ∧ 123 ≠ classBand bulkEntry.cls * 31 + (run30.number - 1) := by
  decide

theorem hyp_TransmitCompletionRemoves : ∃ s : State, s.supply.power = true ∧ s.chan.phase = .sending ∧
    s.chan.queue.find? TxEntry.sending = some { openEntry with sending := true } ∧
    s.permits.current = some (ownClaim, { flight with window := none, awaiting := true }) ∧ ownClaim.state = .pending ∧
    ownClaim.id = openFrameId 7 40 ⟨0, 800123, 9001, 77, ten, 2, 1⟩ :=
  ⟨(claiming [ownClaim] (some { flight with window := none, awaiting := true })).setChan
    { up.chan with phase := .sending, queue := [{ openEntry with sending := true }] }, rfl, rfl, rfl, by decide, rfl, rfl⟩

/-! ### Witnesses: frames heard -/

theorem hyp_UnacceptedFramesDiscarded :
    (withLink fun l => { l with outbound := some (.notice someNotice) }).link.outbound.isSome = true ∧
    ({ header .record 12 with sender := 31 } : RxHeader).sender > 30 ∧
    ({ header .record 12 with hop := 4 } : RxHeader).hop > 3 ∧
    (∀ r, up.link.running = some r → ({ header .record 12 with zone := 6 } : RxHeader).zone ≠ r.config.zone) ∧
    up.listening = some run ∧ up.faults.table.length = 22 ∧
    headerOk { header .record 12 with sender := 7, hop := 1 }
      (fixedForm { header .record 12 with sender := 7, hop := 1 } .record 12) 5 = true ∧
    ({ header .record 12 with sender := 7, hop := 1 } : RxHeader).sender = run.number :=
  ⟨rfl, by decide +kernel, by decide +kernel, fun r h => by cases h; decide, rfl, rfl, by decide +kernel, rfl⟩

/-- A frame from station 9 is accepted wherever the listed checks evaluate so. -/
theorem accepts_of {s : State} {h : RxHeader} {f : FrameForm} {b : Bool} {r : Running} (hp : s.supply.power = true)
    (hl : s.listening = some r) (hh : headerOk h f r.config.zone = true) (hs : h.sender ≠ r.number) (ho : h.origin ≠ r.number)
    (hu : (s.offered h r b).isSome = true) : Accepts s h f b r ((s.offered h r b).get hu) :=
  ⟨hp, hl, hh, hs, ho, by simp⟩

/-- The state in which a frame that station 7 accepts from station 9 reaches its owner. -/
def heard (s : State) (h : RxHeader) (b : Bool) : State := (s.offered h run b).getD s

theorem hyp_StatusFrameRecorded :
    Accepts up (header .record 12) (fixedForm (header .record 12) .record 12) true run (heard up (header .record 12) true) ∧
    up.chan.neighbours.length = 30 :=
  ⟨⟨rfl, rfl, by decide +kernel, by decide +kernel, by decide +kernel, by decide +kernel⟩, rfl⟩

set_option maxRecDepth 20000 in
theorem hyp_StayFrameMerges :
    (∃ u, Accepts up (header .record 49) { classOk := true, length := 1 + 48 * [stay].length, countOk := true } false run u) ∧
    ∃ u, Accepts up (header .bulk 193) { classOk := true, length := 1 + 48 * [stay, stay, stay, stay].length, countOk := true }
      false run u :=
  ⟨⟨heard up (header .record 49) false, rfl, rfl, by decide +kernel, by decide +kernel, by decide +kernel, by decide +kernel⟩,
    ⟨heard up (header .bulk 193) false, rfl, rfl, by decide +kernel, by decide +kernel, by decide +kernel, by decide +kernel⟩⟩

/-- Station 7 reached by an accepted CLAIM or ROUND frame, and by an OBJECT frame, of station 9. -/
theorem accepts_claim (s : State) (n : Nat) (hp : s.supply.power = true) (hl : s.listening = some run)
    (hh : headerOk (header .claim n) (fixedForm (header .claim n) .claim n) 5 = true)
    (hu : s.offered (header .claim n) run false = some (heard s (header .claim n) false)) :
    Accepts s (header .claim n) (fixedForm (header .claim n) .claim n) false run (heard s (header .claim n) false) :=
  ⟨hp, hl, hh, (by decide : (9 : Nat) ≠ 7), (by decide : (9 : Nat) ≠ 7), hu⟩

theorem hyp_ClaimOpenFrameInserts :
    ∃ u, Accepts (claiming [firmClaim] none) (header .claim 17) (fixedForm (header .claim 17) .claim 17) false run u ∧
      9000 < u.today ∧ u.today ≤ 9001 ∧ u.permits.claims.length < 160 ∧
      ∀ c ∈ u.permits.claims, c.of 800124 9001 = false ∧
        c.id ≠ openFrameId 9 100 ⟨0, 800124, 9001, 77, ten, 1, 1⟩ :=
  ⟨heard (claiming [firmClaim] none) (header .claim 17) false, accepts_claim _ 17 rfl rfl (by decide +kernel) (by decide +kernel), by decide +kernel,
    by decide +kernel, by decide +kernel, by decide +kernel⟩

theorem hyp_FirmAndReleaseFramesMerge :
    (∃ u, Accepts (claiming [firmClaim] none) (header .claim 17) (fixedForm (header .claim 17) .claim 17) false run u ∧
      u.today ≤ 9001 ∧ u.permits.claims.length < 160 ∧
      ∀ c ∈ u.permits.claims, c.id ≠ ClaimId.mk 9 99 ∧ (c.of 800123 9001 = true → c.key ≠ 61)) ∧
    ∃ u, Accepts (claiming [provClaim] none) (header .claim 17) (fixedForm (header .claim 17) .claim 17) false run u ∧
      u.today ≤ 9001 ∧ ∃ c ∈ u.permits.claims, c.id = ClaimId.mk 9 99 ∧ c.state = .provisional :=
  ⟨⟨heard (claiming [firmClaim] none) (header .claim 17) false, accepts_claim _ 17 rfl rfl (by decide +kernel) (by decide +kernel), by decide +kernel,
      by decide +kernel, by decide +kernel⟩,
    ⟨heard (claiming [provClaim] none) (header .claim 17) false, accepts_claim _ 17 rfl rfl (by decide +kernel) (by decide +kernel), by decide +kernel,
      by decide +kernel⟩⟩

/-- Station 7 with its own claim in flight. -/
def inFlight : State := claiming [ownClaim] (some flight)

theorem hyp_ObjectFramesDecide :
    (∃ u, Accepts inFlight (header .urgent 18) (fixedForm (header .urgent 18) .urgent 18) false run u ∧
      u.permits.targeted ⟨7, 40⟩ = some (ownClaim, flight) ∧ ownClaim.state = .pending ∧
      claimPrecedes { id := ⟨9, 99⟩, openTime := ten - 1 } ownClaim.ref = true) ∧
    ∃ u, Accepts up (header .urgent 18) (fixedForm (header .urgent 18) .urgent 18) false run u ∧
      u.permits.targeted ⟨8, 40⟩ = none ∧ u.today ≤ 9001 ∧ u.permits.claims.length < 160 ∧
      ∀ c ∈ u.permits.claims, c.id ≠ ClaimId.mk 9 99 :=
  ⟨⟨heard inFlight (header .urgent 18) false, ⟨rfl, rfl, by decide +kernel, by decide +kernel, by decide +kernel, by decide +kernel⟩, by decide +kernel, rfl,
      by decide +kernel⟩,
    ⟨heard up (header .urgent 18) false, ⟨rfl, rfl, by decide +kernel, by decide +kernel, by decide +kernel, by decide +kernel⟩, by decide +kernel, by decide +kernel,
      by decide +kernel, by decide +kernel⟩⟩

theorem hyp_RoundFramesMerge :
    (∃ u, Accepts up (header .claim 22) (fixedForm (header .claim 22) .claim 22) false run u ∧
      roundExpired aRound.id u.ret.clock.time = false ∧ u.ret.round = none) ∧
    ∃ s u, Accepts s (header .claim 22) (fixedForm (header .claim 22) .claim 22) false run u ∧
      roundExpired aRound.id u.ret.clock.time = false ∧ u.ret.round = some aRound ∧ aRound.id = ⟨ten - 60, 9⟩ :=
  ⟨⟨heard up (header .claim 22) false, accepts_claim _ 22 rfl rfl (by decide +kernel) (by decide +kernel), by decide +kernel, by decide +kernel⟩,
    ⟨withRet fun r => { r with round := some aRound }, heard _ (header .claim 22) false,
      accepts_claim _ 22 rfl rfl (by decide +kernel) (by decide +kernel), by decide +kernel, by decide +kernel, rfl⟩⟩

/-- Station 7 at distance 2 of a sink, station 9 being heard at distance 1. -/
def nearSink : State :=
  up.setChan { up.chan with distance := 2, neighbours := up.chan.neighbours.set 8 { Neighbour.initial with
    state := .fresh, direct := true, directTimer := some 60, silenceTimer := some 60
    reported := some ⟨.inService, 1, .normal, none, 60⟩ } }

theorem hyp_FaultFrameMovesToSink :
    (∃ u, Accepts (upAs sinkRun) (header .urgent 15) (fixedForm (header .urgent 15) (faultClass report) 15) false sinkRun u ∧
      u.isSink = true ∧ u.faults.inbox.length < 64) ∧
    (∃ u, Accepts nearSink (header .urgent 15) (fixedForm (header .urgent 15) (faultClass report) 15) false run u ∧
      u.isSink = false ∧ u.chan.distance < 7 ∧ u.chan.distance < 3 ∧ u.chan.queue.length < 16 ∧
      ∀ e ∈ u.chan.queue, ¬(e.origin = 9 ∧ e.seq = 100)) ∧
    ∃ u, Accepts up (header .urgent 15) (fixedForm (header .urgent 15) (faultClass report) 15) false run u ∧
      u.isSink = false ∧ 7 ≤ u.chan.distance :=
  ⟨⟨_, accepts_of rfl rfl (by decide +kernel) (by decide +kernel) (by decide +kernel) (by decide +kernel), by decide +kernel, by decide +kernel⟩,
    ⟨heard nearSink (header .urgent 15) false, ⟨rfl, rfl, by decide +kernel, by decide +kernel, by decide +kernel, by decide +kernel⟩, by decide +kernel, by decide +kernel,
      by decide +kernel, by decide +kernel, by decide +kernel⟩,
    ⟨heard up (header .urgent 15) false, ⟨rfl, rfl, by decide +kernel, by decide +kernel, by decide +kernel, by decide +kernel⟩, by decide +kernel, by decide +kernel⟩⟩

theorem hyp_LinkTimersExpire :
    up.supply.power = true ∧ up.link.running = some run ∧ up.chan.statusTimer.isSome = true ∧ run.number ≠ 0 ∧
    up.chan.queue.length ≤ 13 ∧ up.deferredReports = [] ∧ 9 ≤ nearSink.chan.neighbours.length ∧
    (nearSink.neighbour 9).directTimer.isSome = true ∧ (nearSink.neighbour 9).silenceTimer.isSome = true ∧
    30 ≤ nearSink.chan.neighbours.length ∧ (up.setDuplicateTimer (some 0)).chan.duplicateTimer.isSome = true := by decide +kernel

theorem hyp_NeighboursReadGives : nearSink.LinkFree run ∧ run.number ≠ 0 ∧ (upAs localRun).LinkFree localRun ∧
    localRun.number = 0 ∧ (nearSink.neighbour 9).state ≠ .unheard :=
  ⟨free_of_blocks up_free rfl rfl rfl rfl, by decide +kernel, upAs_free _, rfl, by decide +kernel⟩

/-! ### Witnesses of the further clauses -/

/-- The state in which a frame that station 7 accepts reaches its owner, where it accepts it. -/
def reaches (s : State) (h : RxHeader) (f : FrameForm) (isStatus : Bool) : Option State :=
  if s.supply.power = true ∧ s.listening = some run ∧ headerOk h f 5 = true ∧ h.sender ≠ 7 ∧ h.origin ≠ 7 then
    s.offered h run isStatus
  else none

theorem reached {s : State} {h : RxHeader} {f : FrameForm} {b : Bool} {P : State → Prop} [DecidablePred P]
    (k : (reaches s h f b).any (fun u => decide (P u)) = true) : ∃ u, Accepts s h f b run u ∧ P u := by
  unfold reaches at k
  split at k
  · rename_i c
    cases e : s.offered h run b with
    | none => simp [e] at k
    | some u => exact ⟨u, ⟨c.1, c.2.1, c.2.2.1, c.2.2.2.1, c.2.2.2.2, e⟩, by simpa [e] using k⟩
  · simp at k

/-- A full queue of BULK entries, and one that nothing gives way in. -/
def fullQueue : List TxEntry := (List.range 16).map fun n => { bulkEntry with seq := n }
def firmQueue : List TxEntry := (List.range 16).map fun n => { openEntry with seq := n }

/-- A station with another queue. -/
def withQueue (s : State) (q : List TxEntry) : State := s.setQueue q

theorem hyp_WalkEndCommitsNewSession_number :
    up.stay.find { origin := up.own, number := up.ret.ticket, start := caseOne.start } = none := by decide

/-- Tables of 384 records: of station 9's, and of the own station's. -/
def heardTable : List StayEntry := List.replicate 384 { record := { stay with id := ⟨9, 2, 777719400⟩ }, unannounced := false }
def ownTable : List StayEntry := List.replicate 384 { record := { stay with id := ⟨7, 2, 777719400⟩ }, unannounced := false }

theorem hyp_RecordMergeRules_full :
    (up.setEntries heardTable).stay.find stay.id = none ∧ heardTable.length = 384 ∧ up.faults.table.length = 22 ∧
    heardTable = [] ++ { record := { stay with id := ⟨9, 2, 777719400⟩ }, unannounced := false } :: heardTable.tail ∧
    ownRecord { stay with id := ⟨9, 2, 777719400⟩ } up.own = false ∧
    retireTime { stay with id := ⟨9, 2, 777719400⟩ } < retireTime { stay with expiry := stay.expiry + 60 } ∧
    (up.setEntries ownTable).stay.find stay.id = none ∧ ownTable.length = 384 ∧
    (∀ e ∈ ownTable, ownRecord e.record up.own = true) ∧ up.ret.clock.time < stay.expiry := by decide +kernel

theorem hyp_ClaimVisitorDayOpens_full :
    (∃ u, (withQueue up firmQueue).LinkFree run ∧
      ((withQueue up firmQueue).taking run (.claimVisitorDay book 77)).checkPermit book .visitorBook 77 .claimVisitorDay =
        (u, .ok (.visitor 2)) ∧
      claimRefusal u.permits book.serial u.today 77 2 = none ∧ 16 ≤ u.chan.queue.length ∧ victim u.chan.queue = none) ∧
    ∃ u, (withQueue up fullQueue).LinkFree run ∧
      ((withQueue up fullQueue).taking run (.claimVisitorDay book 77)).checkPermit book .visitorBook 77 .claimVisitorDay =
        (u, .ok (.visitor 2)) ∧
      claimRefusal u.permits book.serial u.today 77 2 = none ∧ (victim u.chan.queue).isSome = true :=
  ⟨⟨(withQueue up firmQueue).taking run (.claimVisitorDay book 77), free_of_blocks up_free rfl rfl rfl rfl,
      by decide +kernel, by decide +kernel, by decide +kernel, by decide +kernel⟩,
    ⟨(withQueue up fullQueue).taking run (.claimVisitorDay book 77), free_of_blocks up_free rfl rfl rfl rfl,
      by decide +kernel, by decide +kernel, by decide +kernel⟩⟩

/-- A station near a sink whose raise of PRINTER waits as the entry's deferred report. -/
def printerWaiting : State :=
  nearSink.setFaultEntry .printer { FaultEntry.initial with deferred := some { made := 0, report } }

theorem hyp_HostFaultsRaisedAndCleared_reports :
    ((upAs sinkRun).LinkFree sinkRun ∧ sinkRun.config.sink = true ∧ (upAs sinkRun).faults.inbox.length < 64) ∧
    (nearSink.LinkFree run ∧ run.config.sink = false ∧ run.number ≠ 0 ∧ nearSink.chan.distance < 7 ∧
      nearSink.chan.queue.length < 16) ∧
    ((withQueue nearSink fullQueue).LinkFree run ∧ 16 ≤ (withQueue nearSink fullQueue).chan.queue.length ∧
      hostKind 1 = some .paperLow ∧ faultClass { report with kind := .paperLow, severity := .warning } ≠ .urgent ∧
      ((withQueue nearSink fullQueue).faultEntry .paperLow).deferred = none ∧
      ((withQueue nearSink fullQueue).faultEntry .paperLow).lastAdmitted = none) ∧
    (up.LinkFree run ∧ 7 ≤ up.chan.distance) ∧
    (∃ s : State, ∃ l, (s.faultEntry report.kind).lastAdmitted = some l ∧ 4 < l) ∧
    ∃ s : State, ∃ d, (s.faultEntry .printer).deferred = some d ∧ d.givesWay 1 report = false ∧
      d.givesWay 1 { report with transition := .cleared } = true ∧ (s.faultEntry .printer).lastAdmitted = none ∧
      s.faults.table.length = 22 :=
  ⟨⟨upAs_free _, rfl, by decide⟩,
    ⟨free_of_blocks up_free rfl rfl rfl rfl, rfl, by decide, by decide, by decide⟩,
    ⟨free_of_blocks up_free rfl rfl rfl rfl, by decide, rfl, by decide, by decide, by decide⟩, ⟨up_free, by decide⟩,
    ⟨up.setFaultEntry .printer { FaultEntry.initial with lastAdmitted := some 5 }, 5, by decide, by decide⟩,
    printerWaiting, { made := 0, report }, by decide⟩

/-- R156: the report of the clear, admitted below a distance of 7 or refused, takes the place of the deferred raise. -/
theorem test_clear_replaces_deferred :
    ((printerWaiting.dealReport 1 { report with transition := .cleared }).faultEntry .printer).deferred = none ∧
    ((printerWaiting.deferAfterRefusal 1 { report with transition := .cleared }).faultEntry .printer).deferred =
      some { made := 1, report := { report with transition := .cleared } } := by decide

theorem hyp_TransmitCompletionRemoves_queue :
    up.link.running = some run ∧ run.number ≠ 0 ∧ up.chan.queue.length < 16 ∧
    16 ≤ (withQueue up fullQueue).chan.queue.length ∧ QueuedBody.cls .status = .record ∧ openEntry.body.cls = .claim ∧
    (∀ e ∈ firmQueue, e.sending = true ∨ e.cls = .urgent ∨ e.cls = .claim) ∧ fullQueue.Nodup ∧
    fullQueue = fullQueue.take 15 ++ { bulkEntry with seq := 15 } :: [] := by decide +kernel

/-- A full queue whose one BULK entry is in transmission, the rest being RECORD entries. -/
def recordQueue : List TxEntry :=
  { bulkEntry with sending := true } :: (List.range 15).map fun n => { bulkEntry with cls := .record, seq := n + 1 }

theorem hyp_TransmitCompletionRemoves_record :
    recordQueue = recordQueue.take 15 ++ { bulkEntry with cls := .record, seq := 15 } :: [] ∧ recordQueue.Nodup ∧
    (∀ e ∈ recordQueue, e.cls = .bulk → e.sending = true) ∧ 16 ≤ recordQueue.length := by decide +kernel

theorem hyp_UnacceptedFramesDiscarded_kinds :
    arrivalOf (.roundOpenFrame { header .claim 22 with sender := 7, hop := 1 } ⟨⟨ten, 9⟩, some 4⟩) =
      some ({ header .claim 22 with sender := 7, hop := 1 },
        fixedForm { header .claim 22 with sender := 7, hop := 1 } .claim 22, false) ∧
    headerOk { header .claim 22 with sender := 7, hop := 1 }
      (fixedForm { header .claim 22 with sender := 7, hop := 1 } .claim 22) 5 = true ∧
    headerOk { header .claim 22 with origin := 7, hop := 1 }
      (fixedForm { header .claim 22 with origin := 7, hop := 1 } .claim 22) 5 = true ∧
    up.listening = some run ∧ ({ header .claim 22 with origin := 7, hop := 1 } : RxHeader).origin = run.number ∧
    ((((up.setNeighbour 9 { Neighbour.initial with window := some ⟨100, 0⟩ }).hear (header .claim 22) 60).recordSeq
      (header .claim 22) false).isNone = true) ∧
    checkRight [0, 0, 0] = false ∧ (0 + 65536 - 65535) % 65536 = 1 ∧ (5 + 65536 - 65509) % 65536 = 32 ∧
    (12 + 65536 - 65515) % 65536 = 33 := by decide +kernel

/-- A header of station 9 with a set clock. -/
def timed (time epoch : Nat) : RxHeader := { header .claim 22 with time, epoch, timeSet := true }

theorem hyp_StatusFrameRecorded_time :
    up.chan.neighbours.length = 30 ∧ up.ret.clock.epoch < 256 ∧ up.ret.clock.set = true ∧
    (∃ u, Accepts (withRet fun r => { r with clock := { r.clock with set := false } }) (timed 5 200)
      (fixedForm (timed 5 200) .claim 22) false run u ∧ u.ret.clock = ⟨5, 200, true⟩) ∧
    (∃ u, Accepts up (timed 5 128) (fixedForm (timed 5 128) .claim 22) false run u ∧ (128 + 256 - 1) % 256 = 127 ∧
      u.ret.clock = ⟨5, 128, true⟩) ∧
    (∃ u, Accepts up (timed 5 129) (fixedForm (timed 5 129) .claim 22) false run u ∧ (129 + 256 - 1) % 256 = 128 ∧
      u.ret.clock = up.ret.clock) ∧
    (∃ u, Accepts up (timed ten 1) (fixedForm (timed ten 1) .claim 22) false run u ∧ u.ret.clock.time = ten) ∧
    (∃ u, Accepts up (timed (ten + 2) 1) (fixedForm (timed (ten + 2) 1) .claim 22) false run u ∧
      u.ret.clock.time = ten + 2) ∧
    (∃ u, Accepts up (timed (ten + 120) 1) (fixedForm (timed (ten + 120) 1) .claim 22) false run u ∧
      u.ret.clock.time = ten + 2) ∧
    ∃ u, Accepts up (timed (ten + 121) 1) (fixedForm (timed (ten + 121) 1) .claim 22) false run u ∧
      u.ret.clock.time = ten ∧ (u.neighbour 9).disputed = true :=
  ⟨rfl, by decide, rfl, reached (by decide +kernel), reached (by decide +kernel), reached (by decide +kernel),
    reached (by decide +kernel), reached (by decide +kernel), reached (by decide +kernel), reached (by decide +kernel)⟩

theorem hyp_ClaimOpenFrameInserts_objects :
    (∃ u, Accepts (claiming [firmClaim] none) (header .claim 17) (fixedForm (header .claim 17) .claim 17) false run u ∧
      u.today ≤ 9001 ∧ (∀ c ∈ u.permits.claims, c.id ≠ openFrameId 9 100 ⟨0, 800123, 9001, 60, ten, 2, 1⟩) ∧
      u.chan.queue.length < 16 ∧ u.permits.holder 800123 9001 60 = some firmClaim ∧
      u.permits.holder 800123 9001 61 = none ∧ 1 ≤ u.permits.vehicles 800123 9001) ∧
    (∃ u, Accepts inFlight (header .claim 17) (fixedForm (header .claim 17) .claim 17) false run u ∧
      u.permits.holder 800123 9001 61 = none ∧ u.permits.vehicles 800123 9001 < 2 ∧
      u.permits.current = some (ownClaim, flight) ∧ ownClaim.of 800123 9001 = true ∧
      claimPrecedes ⟨⟨9, 100⟩, ten⟩ ownClaim.ref = false ∧ claimPrecedes ⟨⟨9, 100⟩, ten - 1⟩ ownClaim.ref = true ∧
      ownClaim.state = .pending) ∧
    ∃ u, Accepts (claiming [provClaim] none) (header .claim 17) (fixedForm (header .claim 17) .claim 17) false run u ∧
      (∀ x ∈ u.permits.claims, x.inFlight = true → x.of 800123 9001 = false) ∧
      u.permits.claims = [] ++ provClaim :: [] ∧ provClaim.of 800123 9001 = true ∧ provClaim.state = .provisional ∧
      claimPrecedes provClaim.ref ⟨⟨9, 100⟩, ten + 1⟩ = true ∧ claimPrecedes provClaim.ref ⟨⟨9, 100⟩, ten⟩ = false ∧
      (∀ c ∈ u.permits.claims, c.id ≠ openFrameId 9 100 ⟨0, 800123, 9001, 61, ten, 2, 1⟩) :=
  ⟨reached (by decide +kernel), reached (by decide +kernel), reached (by decide +kernel)⟩

theorem hyp_ClaimOpenFrameInserts_again :
    (∃ u, Accepts (claiming [{ provClaim with state := .firm }] none) (header .claim 17)
      (fixedForm (header .claim 17) .claim 17) false run u ∧
      ∃ c ∈ u.permits.claims, c.id = openFrameId 9 100 ⟨99, 800123, 9001, 61, ten, 2, 2⟩ ∧ c.state = .firm) ∧
    ∃ u, Accepts (claiming [provClaim] none) (header .claim 17) (fixedForm (header .claim 17) .claim 17) false run u ∧
      u.today ≤ 9001 ∧ u.permits.claims.length < 160 ∧ u.permits.claims ≠ [] ∧
      ∀ c ∈ u.permits.claims, (c.id = openFrameId 9 100 ⟨99, 800123, 9001, 61, ten, 2, 2⟩ → c.state = .provisional) ∧
        (c.of 800123 9001 = true → c.id = openFrameId 9 100 ⟨99, 800123, 9001, 61, ten, 2, 2⟩) :=
  ⟨reached (by decide +kernel), reached (by decide +kernel)⟩

/-- The own claim waiting for the claim (9, 99). -/
def waitingOn : State :=
  claiming [provClaim, { ownClaim with state := .waiting }]
    (some { flight with window := none, waitFor := some ⟨⟨9, 99⟩, ten - 1⟩, waitTimer := some 10 })

theorem hyp_FirmAndReleaseFramesMerge_held :
    (∃ u, Accepts (claiming [provClaim] none) (header .claim 17) (fixedForm (header .claim 17) .claim 17) false run u ∧
      9000 < u.today ∧ u.today ≤ 9001 ∧ (∃ c ∈ u.permits.claims, c.id = ClaimId.mk 9 99 ∧ c.state = .provisional) ∧
      u.permits.current = none) ∧
    ∃ u, Accepts waitingOn (header .claim 17) (fixedForm (header .claim 17) .claim 17) false run u ∧ u.today ≤ 9001 ∧
      u.permits.current.any (fun x => decide (x.1.state = .waiting ∧
        x.2.waitFor.map ClaimRef.id = some (ClaimId.mk 9 99))) = true :=
  ⟨reached (by decide +kernel), reached (by decide +kernel)⟩

/-- The OBJECT COUNT for the own claim (7, 40) that carries one claim of another vehicle. -/
def countBody : ObjectCountBody := ⟨⟨7, 40⟩, 800123, 9001, [⟨⟨6, 2040⟩, 60, ten - 3600⟩]⟩

/-- What its claims make of a state. -/
def mergedCount (u : State) : State := (countBody.carried.map (claimOf 800123 9001)).foldl State.mergeFirm u

theorem hyp_ObjectFramesDecide_count :
    (∃ u, Accepts inFlight (header .urgent 18) (fixedForm (header .urgent 18) .urgent 18) false run u ∧
      (mergedCount u).permits.targeted countBody.target = some (ownClaim, flight) ∧
      flightVerdict (mergedCount u).permits ownClaim flight = none ∧ flight.awaiting = false ∧ flight.attempts < 3 ∧
      (mergedCount u).chan.queue.length < 16) ∧
    (∃ u, Accepts (claiming [ownClaim] (some { flight with allowance := 1 })) (header .urgent 18)
      (fixedForm (header .urgent 18) .urgent 18) false run u ∧
      (mergedCount u).permits.targeted countBody.target = some (ownClaim, { flight with allowance := 1 }) ∧
      flightVerdict (mergedCount u).permits ownClaim { flight with allowance := 1 } = some (.deniedAllowanceUsed 1)) ∧
    (∃ u, Accepts (claiming [ownClaim] (some { flight with awaiting := true, attempts := 3 })) (header .urgent 18)
      (fixedForm (header .urgent 18) .urgent 18) false run u ∧
      (mergedCount u).permits.targeted countBody.target = some (ownClaim, { flight with awaiting := true, attempts := 3 })) ∧
    ∃ u, Accepts up (header .urgent 18) (fixedForm (header .urgent 18) .urgent 18) false run u ∧
      u.permits.targeted ⟨7, 40⟩ = none ∧ (ClaimId.mk 7 40).origin = run.number ∧ u.today ≤ 9001 ∧
      u.permits.claims.length < 160 ∧ ∀ c ∈ u.permits.claims, c.id ≠ ClaimId.mk 9 99 :=
  ⟨reached (by decide +kernel), reached (by decide +kernel), reached (by decide +kernel), reached (by decide +kernel)⟩

theorem hyp_RoundFramesMerge_fold :
    (∃ u, Accepts (withRet fun r => { r with round := some aRound }) (header .claim 22)
      (fixedForm (header .claim 22) .claim 22) false run u ∧ u.ret.round = some aRound ∧ aRound.isOpen = true ∧
      roundExpired ⟨ten - 60, 8⟩ u.ret.clock.time = false ∧ roundPrecedes ⟨ten - 60, 8⟩ aRound.id = true ∧
      roundPrecedes ⟨ten - 60, 10⟩ aRound.id = false) ∧
    [RoundEntry.mk 7 5 1 1, RoundEntry.mk 9 5 1 1].Pairwise (fun x y => x.station < y.station) :=
  ⟨reached (by decide +kernel), by decide⟩

/-- The station with a CLOSED round. -/
def closedRound : State := withRet fun r => { r with round := some { aRound with isOpen := false } }

theorem hyp_RoundFramesMerge_closed :
    (∃ u, Accepts closedRound (header .claim 22) (fixedForm (header .claim 22) .claim 22) false run u ∧
      u.ret.round = some { aRound with isOpen := false } ∧ roundExpired ⟨ten - 59, 8⟩ u.ret.clock.time = false ∧
      aRound.id.time < ten - 59 ∧ roundExpired ⟨ten - 60, 8⟩ u.ret.clock.time = false ∧ ten - 60 ≤ aRound.id.time ∧
      RoundId.mk (ten - 60) 8 ≠ aRound.id) ∧
    (∃ u, Accepts closedRound (header .record 12) (fixedForm (header .record 12) .record 12) true run u ∧
      u.ret.round = some { aRound with isOpen := false } ∧ roundExpired ⟨ten - 59, 8⟩ u.ret.clock.time = false ∧
      roundExpired aRound.id u.ret.clock.time = false) ∧
    ∃ u, Accepts up (header .record 12) (fixedForm (header .record 12) .record 12) true run u ∧ u.ret.round = none :=
  ⟨reached (by decide +kernel), reached (by decide +kernel), reached (by decide +kernel)⟩

theorem hyp_LinkTimersExpire_deferred : ∃ d, ∃ s : State, s.supply.power = true ∧ s.link.running = some run ∧
    s.chan.statusTimer.isSome = true ∧ run.config.sink = false ∧ s.chan.distance < 7 ∧ s.chan.queue.length ≤ 12 ∧
    s.faults.table.length = 22 ∧ s.deferredReports = [d] :=
  ⟨{ made := 0, report }, printerWaiting, rfl, rfl, rfl, rfl, by decide, by decide, rfl, by decide⟩

/-- Three records of key 77 in table order, the first unannounced, with the cursor at the second. -/
def rotating : State := up.setStay {
  entries := [{ record := { stay with id := ⟨7, 1, 777719400⟩ }, unannounced := true }, { record := stay, unannounced := false },
    { record := { stay with id := ⟨9, 2, 777719400⟩, expiry := stay.expiry + 60 }, unannounced := false }]
  cursor := some (tableKey stay) }

theorem hyp_LinkTimersExpire_rotation :
    (rotating.chan.queue.any fun e => e.isOwnBulkStay && !e.sending) = false ∧ rotating.chan.queue.length ≤ 13 ∧
    rotating.deferredReports = [] ∧ (firstPass rotating.stay).length = 1 ∧
    ((secondPass rotating.stay rotating.now).map fun e => e.record.id) = [⟨9, 2, 777719400⟩, ⟨9, 1, 777719400⟩] ∧
    ∃ x, x.isOpen = true ∧ x.entryOf run.number = some ⟨7, ten, 3, 60⟩ ∧
      (withRet fun r => { r with round := some x }).deferredReports = [] :=
  ⟨by decide, by decide, by decide, by decide, by decide, { aRound with entries := [⟨7, ten, 3, 60⟩] }, rfl, rfl, by decide⟩

/-- The second before midnight of day 9001, a table due at the midnight, a round 12 hours old, and a claim of the day in
flight. -/
def lateEvening : State :=
  ((withRet fun r => { r with
    clock := { r.clock with time := 777772799 }, awaiting := some { table12 with activation := 777772800 }
    round := some { aRound with id := ⟨777729600, 9⟩ } }).setPermits (claiming [firmClaim, ownClaim] (some flight)).permits)

theorem hyp_SecondCountAdvances_delivered :
    lateEvening.supply.power = true ∧ lateEvening.LinkOpen ∧ (777772799 + 1) / 86400 = 9002 ∧ lateEvening.day = 9001 ∧
    roundExpired ⟨777729600, 9⟩ 777772800 = true ∧ lateEvening.permits.current.isSome = true ∧
    (∀ c f, lateEvening.permits.current = some (c, f) → c.day < 9002) ∧
    lateEvening.link.level .claimResult ≠ .off ∧ lateEvening.link.level .tariffSwitched ≠ .off ∧
    lateEvening.link.level .roundChanged ≠ .off :=
  ⟨rfl, (free_of_blocks up_free rfl rfl rfl rfl : lateEvening.LinkFree run).isOpen, by decide, rfl, by decide, by decide,
    fun c f h => by cases h; decide, by decide, by decide, by decide⟩

/-- A box of three items, and a station with that box, a retained store changed further and its lines as given. -/
def someBox : BoxCounters := ⟨[10, 100, 200], [1, 0, 2], 3, 410, 400, 10⟩
def atLines (doorOpen boxAbsent : Bool) (f : Retained → Retained) : State :=
  (withRet fun r => f { r with box := someBox }).setSupply { up.supply with doorOpen, boxAbsent }

/-- Door found open and box found absent, a table due, a round 12 hours old and a forced opening outstanding; an OPEN round not
expired; door found closed and box found present; lines that agree, a table not yet due. -/
theorem hyp_Starts_events :
    (∃ s : State, s.supply.power = true ∧ s.supply.resetHeld = false ∧ s.link.inbound = none ∧
      s.supply.doorOpen = true ∧ s.ret.door.doorOpen = false ∧ s.supply.boxAbsent = true ∧ s.ret.door.boxAbsent = false ∧
      s.ret.door.forcedOutstanding = true ∧ (∃ x, s.ret.awaiting = some x ∧ x.activation ≤ s.ret.clock.time) ∧
      ∃ r, s.ret.round = some r ∧ r.isOpen = true ∧ roundExpired r.id s.ret.clock.time = true) ∧
    (∃ s : State, s.supply.boxAbsent = true ∧ s.ret.door.boxAbsent = false ∧ s.supply.doorOpen = s.ret.door.doorOpen ∧
      s.ret.roundStanding = some aRound ∧ aRound.isOpen = true) ∧
    (∃ s : State, s.supply.doorOpen = false ∧ s.ret.door.doorOpen = true ∧ s.supply.boxAbsent = s.ret.door.boxAbsent) ∧
    ∃ s : State, s.supply.doorOpen = s.ret.door.doorOpen ∧ s.supply.boxAbsent = false ∧
      ∃ x, s.ret.awaiting = some x ∧ s.ret.clock.time < x.activation :=
  ⟨⟨atLines true true fun r => { r with
        awaiting := some { table12 with activation := ten }, round := some { aRound with id := ⟨ten - 43200, 9⟩ }
        door := { r.door with forcedOutstanding := true, openings := 4 } },
      rfl, rfl, rfl, rfl, rfl, rfl, rfl, rfl, ⟨_, rfl, Nat.le_refl _⟩, _, rfl, rfl, by decide⟩,
    ⟨atLines false true fun r => { r with round := some aRound }, rfl, rfl, rfl, by decide, rfl⟩,
    ⟨atLines false false fun r => { r with door := { r.door with doorOpen := true } }, rfl, rfl, rfl⟩,
    ⟨atLines false false fun r => { r with awaiting := some { table12 with activation := ten + 1 } }, rfl, rfl,
      _, rfl, Nat.lt_succ_self _⟩⟩

/-- The sale of four items into a box of 5, of 4 and of 1000; a removal of a FULL box and of one whose band stays NORMAL. -/
theorem hyp_BandFound :
    (some .normal ≠ some (bandOf 4 5) ∧ bandFault (bandOf 4 5) = some .boxNearFull) ∧
    (some .normal ≠ some (bandOf 4 4) ∧ bandFault (bandOf 4 4) = some .boxFull) ∧
    bandOf 4 1000 = .normal ∧ up.cash.band = some .normal ∧ up.cash.capacity = some 1000 ∧
    cashTerms.tender = .cash [0, 2, 2] ∧ (up.ret.box.add [0, 2, 2] 565 35).items = 4 ∧ cardTerms.tender = .card ∧
    (∃ s : State, s.supply.power = true ∧ s.supply.boxAbsent = false ∧ s.cash.capacity = some 4 ∧ s.cash.band = some .full ∧
      FillBand.full ≠ bandOf 0 4 ∧ bandFault .full = some .boxFull ∧ s.faultActive .boxFull = true ∧
      s.link.level .boxBand ≠ .off) ∧
    (∀ c, up.cash.capacity = some c → up.cash.band = some (bandOf 0 c)) ∧ up.faults.table.length = 22 ∧
    State.reset.cash.capacity = none :=
  ⟨by decide, by decide, by decide, rfl, rfl, rfl, by decide, rfl,
    ⟨(up.setCash { up.cash with capacity := some 4, band := some .full }).setFaultEntry .boxFull
        { FaultEntry.initial with active := true }, rfl, rfl, rfl, rfl, by decide, rfl, by decide, by decide⟩,
    (fun c h => by cases h; decide), rfl, rfl⟩

/-- The DURATION of an extension: 30 minutes more to 120, and a longer one held by the max stay. -/
theorem hyp_DurationWalkWithinAsked_extension :
    walkOutcome (beginWalk table12 ten (.duration 120) 0 (some stay) (some cardTerms)) = .result extensionResult ∧
    (match walkOutcome (beginWalk table12 ten (.duration 500) 0 (some stay) none) with
      | .result r => decide (r.minutes = 240 ∧ r.bought = 150 ∧ 0 < stay.maxStay)
      | .refused _ _ => false) = true := by decide +kernel

/-- Versions of the held record of one extension count and one expiry, paid more, paid less, and the record itself. -/
theorem hyp_RecordMergeRules_conflict :
    withStay.stay.find stay.id = some { record := stay, unannounced := false } ∧ withStay.faults.table.length = 22 ∧
    carriedOk { stay with paidTotal := 661 } = true ∧ { stay with paidTotal := 661 } ≠ stay ∧ stay.paidTotal < 661 ∧
    carriedOk { stay with paidTotal := 659 } = true ∧ { stay with paidTotal := 659 } ≠ stay ∧ ¬ stay.paidTotal < 659 ∧
    withStay.ret.clock.time < retireTime stay := by decide

/-- A REFUSE and a NOTE hit of a book, and of a permit that a SELL carries. -/
theorem hyp_HitTaken :
    (∃ i, blockHit blocking.ret.blockList book.serial .visitorBook = some (i, .refuse)) ∧
    blocking.faults.table.length = 22 ∧ blocking.link.level .blockHit ≠ .off ∧
    (∃ s : State, s.LinkFree run ∧ blockHit s.ret.blockList book.serial .visitorBook = some (0, .note) ∧
      blockHit s.ret.blockList resident.serial .business = some (0, .note) ∧
      (s.salePermit sellReq none).2 = .ok (25, some { cls := .business, serial := 800123 }) ∧
      ((s.taking run (.claimVisitorDay book 77)).checkPermit book .visitorBook 77 .claimVisitorDay).2 = .ok (.visitor 2)) ∧
    permitForm { resident with classCode := 2 } = some .business ∧
    (blocking.salePermit sellReq none).2 = .error .blocked :=
  ⟨⟨0, by decide⟩, rfl, by decide,
    ⟨withRet fun r => { r with blockList :=
        { low := 0, high := 4294967295, classes := ⟨true, true, true, true⟩, action := .note } :: r.blockList.tail },
      withRet_free _, by decide, by decide, by decide +kernel, by decide +kernel⟩, by decide, by decide +kernel⟩

/-- A FRESH entry with a report and a disputed flag; station 7 with stations 9, 10 and 11 FRESH, 9 disputed or not. -/
def freshEntry (disputed : Bool) : Neighbour := { Neighbour.initial with state := .fresh, disputed, lastHeard := some ten }
def threeFresh (nine : Bool) : State :=
  up.setChan { up.chan with neighbours :=
    ((up.chan.neighbours.set 8 (freshEntry nine)).set 9 (freshEntry true)).set 10 (freshEntry true) }

/-- A frame of station 9 far ahead makes its entry the third disputed, and one of equal time takes it back to two; one without
a set clock leaves the two. -/
theorem hyp_StatusFrameRecorded_clocks :
    (threeFresh false).faults.table.length = 22 ∧ (threeFresh false).disputedFresh = 2 ∧
    (threeFresh false).faultActive .clockDisagree = false ∧ ((threeFresh false).neighbour 9).state = .fresh ∧
    (∃ u, Accepts (threeFresh false) (timed (ten + 121) 1) (fixedForm (timed (ten + 121) 1) .claim 22) false run u ∧
      u.disputedFresh = 3 ∧ u.faultActive .clockDisagree = true) ∧
    (∃ u, Accepts (threeFresh true) (timed ten 1) (fixedForm (timed ten 1) .claim 22) false run u ∧
      (threeFresh true).disputedFresh = 3 ∧ u.disputedFresh = 2 ∧ u.faultActive .clockDisagree = false) ∧
    ∃ u, Accepts (threeFresh false) (header .claim 22) (fixedForm (header .claim 22) .claim 22) false run u ∧
      u.disputedFresh = 2 :=
  ⟨rfl, by decide +kernel, by decide +kernel, by decide +kernel, reached (by decide +kernel), reached (by decide +kernel),
    reached (by decide +kernel)⟩

/-- Station 9 FRESH and reporting a version of table 12, with TARIFF BEHIND active with a detail. -/
def nineReports (version : Nat) (active : Bool) (detail : Nat) : State :=
  (up.setChan { up.chan with neighbours := up.chan.neighbours.set 8 { freshEntry false with
    reported := some ⟨.inService, 1, .normal, some ⟨12, version⟩, 60⟩ } }).setFaultEntry .tariffBehind
      { FaultEntry.initial with active, detail }

/-- A STATUS frame of station 9 behind which the station newly stands, with a newer version than the detail, and with one that
is not newer. -/
theorem hyp_StatusFrameRecorded_tariff :
    (∃ u, Accepts (nineReports 3 false 0) (header .record 12) (fixedForm (header .record 12) .record 12) true run u ∧
      u.faultActive .tariffBehind = false) ∧
    (∃ u, Accepts (nineReports 5 true 5) (header .record 12) (fixedForm (header .record 12) .record 12) true run u ∧
      u.faultActive .tariffBehind = true ∧ (u.faultEntry .tariffBehind).detail = 5) ∧
    (5 < 6 ∧ 4 ≤ 5) ∧ (nineReports 5 true 5).behindBy 5 ∧ ∀ y, (nineReports 5 true 5).behindBy y → y ≤ 5 :=
  ⟨reached (by decide +kernel), reached (by decide +kernel), by decide,
    ⟨table12, (nineReports 5 true 5).neighbour 9, ⟨.inService, 1, .normal, some ⟨12, 5⟩, 60⟩, rfl, by decide +kernel, rfl, rfl,
      rfl, by decide⟩,
    fun y ⟨x, e, rep, hx, he, hf, hr, hv, _⟩ => by
      have h : ∀ e ∈ (nineReports 5 true 5).chan.neighbours, e.state = .fresh →
          (e.reported.bind Reported.tariff).any (fun v => decide (v.version ≤ 5)) = true := by decide +kernel
      have := h e he hf
      simpa [hr, hv] using this⟩

/-- The walk's own refusal, a short cash payment, a changed set, and what may become of the record extended. -/
theorem hyp_WalkEnd_refusals :
    walkOutcome { caseOneSale with asked := .amount 49 } = .refused .belowMinimum .unclamped ∧
    tenderTotal cashTerms.examined [1, 0, 0] < extensionResult.price ∧ (withStay.setWalk none).stay.find ⟨9, 9, 0⟩ = none ∧
    (withRet fun r => { r with box := BoxCounters.zero [5] }).ret.box.denominations ≠ cashTerms.examined ∧
    sameContinuation { stay with expiry := stay.expiry + 60 } stay = false ∧ sameContinuation stay stay = true ∧
    ({ stay with tariff := ⟨11, 3⟩ } : StayRecord).tariff.id ≠ extension.table.name.id ∧
    (up.setWalk (some caseOneSale)).bandStays cashTerms.tender 565 35 ∧ up.chan.queue.length < 16 ∧
    16 ≤ (withQueue up fullQueue).chan.queue.length ∧ localRun.number = 0 :=
  ⟨by decide +kernel, by decide, rfl, by decide, by decide, by decide, by decide,
    (fun counts capacity ht hc => by cases ht; cases hc; rfl), by decide, by decide, rfl⟩

/-- A QUOTE for an exempt class, and for a record whose tariff is another; a SELL whose tender is not the amount. -/
theorem hyp_QuoteAndSell_refusals :
    quoteDiscount table12 (some 0) = none ∧ quoteForm { quoteReq with treatment := some 0 } = true ∧
    extensionRecord withStay.stay table12.name ⟨9, 9, 0⟩ withStay.ret.clock.time = .error .unknownTicket ∧
    sellForm up.ret.box.denominations { sellReq with asked := .amount 601, tender := .cash [0, 2, 2] } = false := by decide

/-- An inbox of 64 reports, the second of severity INFO. -/
def crowded (r : FaultReport) : List InboxReport :=
  { report, seq := some 1, enteredAt := ten } :: { report := r, seq := some 2, enteredAt := ten } ::
    List.replicate 62 { report, seq := some 3, enteredAt := ten }

theorem hyp_FaultFrameMovesToSink_full :
    (upAs sinkRun).isSink = true ∧ 64 ≤ (crowded { report with severity := .info }).length ∧
    64 ≤ (crowded report).length ∧ (∀ y ∈ crowded report, y.report.severity ≠ .info) ∧
    (∃ u, Accepts ((upAs sinkRun).setFaults { up.faults with inbox := crowded report }) (header .urgent 15)
      (fixedForm (header .urgent 15) (faultClass report) 15) false sinkRun u ∧ u.isSink = true ∧ 64 ≤ u.faults.inbox.length) :=
  ⟨rfl, by decide, by decide, by decide,
    ⟨_, accepts_of rfl rfl (by decide +kernel) (by decide +kernel) (by decide +kernel) (by decide +kernel), by decide +kernel,
      by decide +kernel⟩⟩

/-! ### Witnesses: formats and invariants -/

/-- A frame of station 9 as it stands on the air. -/
def airFrame (cls : FrameClass) (b : AirBody) : AirFrame :=
  { zone := 4095, sender := 9, origin := 9, seq := 65535, hop := 0, relay := true, cls, time := ten, epoch := 255
    timeSet := true, body := b }

theorem hyp_ClaimAndRoundFramesReadBack :
    wfHeader (heardHeader (airFrame .claim (.claimOpen ⟨0, 800123, 9001, 77, ten, 7, 3⟩))) = true ∧
    Instr.wf (.claimOpenFrame (heardHeader (airFrame .claim (.claimOpen ⟨0, 800123, 9001, 77, ten, 7, 3⟩)))
      ⟨0, 800123, 9001, 77, ten, 7, 3⟩) = true ∧
    Instr.wf (.claimFirmFrame (header .claim 17) ⟨1, 800123, 9001, 77, ten⟩) = true ∧
    Instr.wf (.claimReleaseFrame (header .claim 17) ⟨1, 800123, 9001, 77⟩) = true ∧
    Instr.wf (.roundOpenFrame (header .claim 22) ⟨⟨ten, 9⟩, some 4⟩) = true ∧
    Instr.wf (.roundEntryFrame (header .claim 22) ⟨⟨ten, 9⟩, none, ⟨9, ten, 140, 11260⟩⟩) = true ∧
    Instr.wf (.roundCloseFrame (header .claim 22) ⟨⟨ten, 9⟩⟩) = true := by decide +kernel

theorem hyp_CarriedRecordReadsBack : wfRecord stay = true ∧
    wfRecord { stay with extensions := 15, lastBy := some 30, minutes := 2047, permit := some ⟨.trade, 4294967295⟩ } = true := by
  decide

theorem hyp_StepKeepsInvariants :
    clockInRange up ∧ stagingInForm up ∧ serviceDerived up ∧ distanceLegal up ∧ distanceLegal State.reset ∧ up.Bounded ∧
    step up = .next up ∧ up.supply.power = true :=
  ⟨⟨by decide +kernel, by decide +kernel⟩, rfl, fun _ => by decide +kernel, by unfold distanceLegal; decide, by unfold distanceLegal; decide,
    ⟨by decide +kernel, rfl, by decide +kernel, rfl, by decide +kernel, rfl, by decide +kernel, by decide +kernel⟩, rfl, rfl⟩

/-- The forms that every step keeps hold of a table in rotation, a claim in flight and a cash walk. -/
theorem hyp_StepKeepsInvariants_forms :
    rotating.Bounded ∧ rotating.StayOrdered ∧ lateEvening.OneFlight ∧ (up.setWalk (some caseOneSale)).BoxBalanced :=
  ⟨⟨by decide +kernel, rfl, by decide +kernel, rfl, by decide +kernel, rfl, by decide +kernel, by decide +kernel⟩,
    ⟨by decide +kernel, by decide +kernel⟩, ⟨by decide +kernel, fun h => nomatch h⟩,
    { counted := rfl, items := rfl, value := rfl, accounts := rfl, room := by decide
      capacity := (fun c h => by cases h; decide), inForce := by decide, waiting := (fun _ h => nomatch h)
      walk := (fun w h => by
        cases h
        exact ⟨rfl, fun terms counts ht hc => by
          cases ht; cases hc; exact ⟨rfl, fun a ha => by cases ha; rfl, by decide⟩⟩) }⟩

/-- The reset state is the cold start of a blank part. -/
theorem test_reset_is_cold_start : (off .blank).powerUp 0 false = State.reset := by decide +kernel

/-! ### One step at a time: the examples of the chapters -/

/-- Chapter 2, "one station merging through a second": d = 1 and d = 49 at epoch 4, from 777,607,200. -/
theorem test_time_merge :
    let s := withRet fun r => { r with clock := { time := 777607200, epoch := 4, set := true } }
    let a := s.mergeTime { header .record 12 with time := 777607201, epoch := 4, timeSet := true }
    let b := a.mergeTime { header .record 12 with time := 777607250, epoch := 4, timeSet := true }
    let c := b.mergeTime { header .record 12 with time := 777607500, epoch := 4, timeSet := true }
    a.now = 777607201 ∧ b.now = 777607203 ∧ c.now = 777607203 ∧ (c.neighbour 9).disputed = true ∧
      (b.neighbour 9).disputed = false := by decide +kernel

/-- Chapter 7, "two rounds meeting": station 28's round y is folded into x, which its STATUS-borne id names. -/
theorem test_round_folds :
    let y : Round :=
      { id := ⟨777711750, 28⟩, collector := some 5, isOpen := true, entries := [⟨28, 777711900, 140, 11260⟩], unplaced := none }
    let s := ((upAs { number := 28, config := cfg }).setRound (some y)).onRound ⟨777711610, 2⟩ .status
    (s.ret.round.map fun r => (r.id, r.collector, r.entries.map RoundEntry.value)) =
      some (⟨777711610, 2⟩, none, [11260]) := by decide +kernel

end Sys2Proof.Tests
end

/-! PROOF. Requests at a free link: a command that writes one is its block's answer, the response formed, and the end of the
step. -/

namespace Sys2Proof.Machine

/-! ### The same blocks -/

namespace SameBlocks

theorem trans {s t u : State} (h : SameBlocks s t) (k : SameBlocks t u) : SameBlocks s u where
  supply := k.supply.trans h.supply
  ret := k.ret.trans h.ret
  chan := k.chan.trans h.chan
  day := k.day.trans h.day
  staging := k.staging.trans h.staging
  stay := k.stay.trans h.stay
  permits := k.permits.trans h.permits
  cash := k.cash.trans h.cash
  table := k.table.trans h.table
  service := k.service.trans h.service
  inbox := k.inbox.trans h.inbox
  running := k.running.trans h.running

theorem setStaging {s t : State} (h : SameBlocks s t) (v : List Host.Cell) :
    SameBlocks (s.setStaging v) (t.setStaging v) :=
  { h with staging := rfl }

theorem setRet {s t : State} (h : SameBlocks s t) (v : Retained) : SameBlocks (s.setRet v) (t.setRet v) :=
  { h with ret := rfl }

end SameBlocks

/-! ### The state in which a request is taken -/

section Taking
variable (s : State) (r : Running) (q : Request)

@[simp] theorem taking_walk : (s.taking r q).walk = s.walk := rfl
@[simp] theorem taking_link : (s.taking r q).link = { s.link with inbound := some (soundFrame q) } := rfl

theorem sameBlocks_taking : SameBlocks s (s.taking r q) := ⟨rfl, rfl, rfl, rfl, rfl, rfl, rfl, rfl, rfl, rfl, rfl, rfl⟩

end Taking

/-- R153: at a free link an arrival restarts the liveness timer, and there is no silence for it to end. -/
theorem arrival_of_free {s : State} {r : Running} (h : s.LinkFree r) :
    s.arrival = s.startLiveness r.config.liveness := by
  simp [State.arrival, h.running, h.isOpen.heard]

theorem goodRestart_soundFrame {q : Request} (hq : q ≠ .restart) : goodRestart (soundFrame q) = false := by
  simp [goodRestart, soundFrame, hq]

/-- R162, R163: a request written to a free link is held and taken. -/
theorem writeFrame_of_free {s : State} {r : Running} {q : Request} (h : s.LinkFree r) (hq : q ≠ .restart) :
    s.writeFrame (soundFrame q) = (s.taking r q).takeRequest := by
  have empty : (s.startLiveness r.config.liveness).link.inbound.isSome = false := by
    simp [State.startLiveness, h.isOpen.inbound]
  simp only [State.writeFrame, h.isOpen.released, arrival_of_free h, empty, goodRestart_soundFrame hq]
  rfl

/-- R163: a started station hands a sound request to its block. -/
theorem examine_soundFrame {t : State} {q : Request} (h : t.started = true) : t.examine (soundFrame q) = t.handle q := by
  simp [State.examine, State.examineContent, soundFrame, h]

/-- R163: a request taken at a free link and answered at once becomes the waiting response. -/
theorem takeRequest_of_handle {s u : State} {r : Running} {q : Request} {a : Answer} (h : s.LinkFree r)
    (hh : (s.taking r q).handle q = (u, some a)) : (s.taking r q).takeRequest = u.respond (requestCode q) a := by
  have idle : (s.taking r q).linkIdle = true := by
    simp [State.linkIdle, MachineLink.responseOut, h.isOpen.waiting, h.isOpen.outbound, h.isOpen.walk]
  have started : (s.taking r q).started = true := by simp [State.started, h.running]
  simp only [State.takeRequest, taking_link, idle, if_true, examine_soundFrame started, hh]
  rfl

/-- Log 1: a request's command is the write of its sound frame, and the end of the step. -/
theorem exec_commandOf (q : Request) (s : State) :
    exec (commandOf q) s = .next (s.whilePowered fun t => t.writeFrame (soundFrame q)) := by
  cases q <;> rfl

/-- R163: at a free link a request that its block answers at once is answered in the step that writes it. -/
theorem exec_commandOf_of_handle {s u : State} {r : Running} {q : Request} {a : Answer} (h : s.LinkFree r)
    (hq : q ≠ .restart) (hh : (s.taking r q).handle q = (u, some a)) :
    exec (commandOf q) s = .next (u.respond (requestCode q) a).settle := by
  rw [exec_commandOf, State.whilePowered, if_pos h.isOpen.power, writeFrame_of_free h hq, takeRequest_of_handle h hh]

/-! ### The response and the end of the step -/

theorem sameBlocks_respond (u : State) (code : Nat) (a : Answer) : SameBlocks u (u.respond code a) :=
  ⟨rfl, rfl, rfl, rfl, rfl, rfl, rfl, rfl, rfl, rfl, rfl, rfl⟩

theorem sameBlocks_settle (s : State) : SameBlocks s s.settle :=
  ⟨rfl, rfl, rfl, rfl, rfl, rfl, rfl, rfl, rfl, rfl, rfl, settle_running s⟩

/-- R166: the notice taken is one of the pending set. -/
theorem mem_of_nextNotice {l : MachineLink} {n : Notice} (h : l.nextNotice = some n) : n ∈ l.notices := by
  unfold MachineLink.nextNotice at h
  split at h
  · next hfind =>
    obtain rfl := Option.some.inj h
    exact List.mem_of_find?_eq_some hfind
  · exact List.mem_of_head? h

/-- Every notice of the link, pending or in the outbound mailbox, is one of the given list. -/
structure MachineLink.NoticesFrom (l : MachineLink) (ns : List Notice) : Prop where
  pending : ∀ n ∈ l.notices, n ∈ ns
  outbound : ∀ n, l.outbound = some (.notice n) → n ∈ ns

theorem noticesFrom_placeNotice {l : MachineLink} {ns : List Notice} (h : l.NoticesFrom ns) :
    l.placeNotice.NoticesFrom ns := by
  unfold MachineLink.placeNotice
  split
  · exact h
  · next n hn =>
    refine ⟨fun m hm => h.pending m (List.mem_of_mem_erase hm), fun m hm => ?_⟩
    cases hm
    exact h.pending n (mem_of_nextNotice hn)

theorem noticesFrom_placeResponse {l : MachineLink} {ns : List Notice} (h : l.NoticesFrom ns) :
    l.placeResponse.NoticesFrom ns := by
  unfold MachineLink.placeResponse
  split
  · exact h
  · exact ⟨h.pending, fun m hm => nomatch hm⟩

/-- R164, R166: filling the outbound mailbox makes no notice. -/
theorem noticesFrom_settle {l : MachineLink} {ns : List Notice} (h : l.NoticesFrom ns) : l.settle.NoticesFrom ns := by
  have notice : l.placeNotice.NoticesFrom ns := noticesFrom_placeNotice h
  have response : l.placeResponse.NoticesFrom ns := noticesFrom_placeResponse h
  unfold MachineLink.settle
  split
  · exact h
  · split
    · split
      · exact response
      · split
        · exact ⟨notice.pending, notice.outbound⟩
        · exact ⟨response.pending, response.outbound⟩
    · exact notice

/-- R164, R166: a step whose outbound mailbox is empty gives the host, at its end, no notice but the pending ones. -/
theorem notices_of_settle {s : State} (h : s.link.outbound = none) : s.settle.link.NoticesFrom s.link.notices := by
  have before : s.link.NoticesFrom s.link.notices := ⟨fun _ hn => hn, fun n hn => by simp [h] at hn⟩
  unfold State.settle
  rw [setLink_link]
  split
  · exact noticesFrom_settle before
  · exact before

theorem placeNotice_waiting (l : MachineLink) : l.placeNotice.waiting = l.waiting := by
  unfold MachineLink.placeNotice
  split <;> rfl

theorem placeResponse_of_waiting {l : MachineLink} {x : Response} (h : l.waiting = some x) :
    l.placeResponse = { l with
      outbound := some (.response { x with overrun := l.overrun }), overrun := false, waiting := none, inbound := none } := by
  simp [MachineLink.placeResponse, h]

/-- R163, R164: a response formed still waits at the end of the step, or has been placed in the outbound mailbox. -/
theorem answered_respond_settle (u : State) (code : Nat) (a : Answer) : (u.respond code a).settle.Answered code a := by
  have waits : (u.respond code a).link.waiting = some { code, result := a.result, body := a.body, overrun := false } := rfl
  have placed := placeResponse_of_waiting waits
  simp only [State.Answered, State.settle, setLink_link, MachineLink.settle, waits, Option.isSome_some, if_true]
  split
  · split
    · exact .inl waits
    · split
      · exact .inr ⟨by rw [placed], _, by rw [placed]⟩
      · split
        · exact .inl ((placeNotice_waiting _).trans waits)
        · exact .inr ⟨by rw [placed], _, by rw [placed]⟩
  · exact .inl waits

theorem sameBlocks_respond_settle {s u : State} (h : SameBlocks s u) (code : Nat) (a : Answer) :
    SameBlocks s (u.respond code a).settle :=
  (h.trans (sameBlocks_respond u code a)).trans (sameBlocks_settle _)

/-! ### TARIFF LOAD and TARIFF DISCARD -/

theorem chunkOk_iff (o : Nat) (chunk : List Byte) :
    chunkOk o chunk = true ↔ 1 ≤ chunk.length ∧ chunk.length ≤ 64 ∧ o + chunk.length ≤ 2048 := by
  unfold chunkOk
  exact decide_eq_true_iff

/-- R46: a chunk inside the area is written. -/
theorem reqTariffLoad_of_ok {o : Nat} {chunk : List Byte} (h : chunkOk o chunk = true) (s : State) :
    reqTariffLoad o chunk s = (s.setStaging (writeStaging s.staging o chunk),
      .done (.marked (writeStaging s.staging o chunk).length)) := by
  simp [reqTariffLoad, h]

/-- R46: any other chunk is BAD REQUEST, and nothing is written. -/
theorem reqTariffLoad_of_not_ok {o : Nat} {chunk : List Byte} (h : ¬ chunkOk o chunk = true) (s : State) :
    reqTariffLoad o chunk s = (s, .bad) := by
  simp [reqTariffLoad, h]

theorem exec_tariffLoad_of_ok {s : State} {r : Running} {o : Nat} {chunk : List Byte} (h : s.LinkFree r)
    (ok : chunkOk o chunk = true) :
    exec (.tariffLoad o chunk) s = .next (((s.taking r (.tariffLoad o chunk)).setStaging
      (writeStaging s.staging o chunk)).respond 5 (.done (.marked (writeStaging s.staging o chunk).length))).settle :=
  exec_commandOf_of_handle (q := .tariffLoad o chunk) h nofun (congrArg atOnce (reqTariffLoad_of_ok ok _))

theorem exec_tariffLoad_of_not_ok {s : State} {r : Running} {o : Nat} {chunk : List Byte} (h : s.LinkFree r)
    (bad : ¬ chunkOk o chunk = true) :
    exec (.tariffLoad o chunk) s = .next ((s.taking r (.tariffLoad o chunk)).respond 5 .bad).settle :=
  exec_commandOf_of_handle (q := .tariffLoad o chunk) h nofun (congrArg atOnce (reqTariffLoad_of_not_ok bad _))

theorem exec_tariffDiscard {s : State} {r : Running} (h : s.LinkFree r) :
    exec .tariffDiscard s = .next ((((s.taking r .tariffDiscard).setStaging []).setRet
      { s.ret with awaiting := none }).respond 7
        (.done (.discarded (!s.staging.isEmpty) (s.ret.awaiting.map TariffTable.name)))).settle :=
  exec_commandOf_of_handle (q := .tariffDiscard) h nofun rfl

/-- Settles O12. The chunk's test splits the two clauses; what is read back is the law of `writeStaging`. -/
theorem tariffLoadWritesStaging : Obligations.TariffLoadWritesStaging := by
  intro s r o chunk free wf
  have taken := sameBlocks_taking s r (.tariffLoad o chunk)
  refine ⟨fun nonempty short inside => ?_, fun malformed => ?_⟩
  · have ok := (chunkOk_iff o chunk).2 ⟨nonempty, short, inside⟩
    exact ⟨_, exec_tariffLoad_of_ok free ok, readStaging_writeStaging chunk s.staging o ((stagingWf_iff _).1 wf).1,
      stagingWf_writeStaging chunk s.staging o inside wf, answered_respond_settle _ _ _, free.isOpen.walk,
      sameBlocks_respond_settle (taken.setStaging _) _ _⟩
  · have bad : ¬ chunkOk o chunk = true := by
      rw [chunkOk_iff]
      rintro ⟨nonempty, short, inside⟩
      rcases malformed with rfl | long | beyond
      · simp at nonempty
      · omega
      · omega
    exact ⟨_, exec_tariffLoad_of_not_ok free bad, answered_respond_settle _ _ _, free.isOpen.walk,
      sameBlocks_respond_settle taken _ _⟩

/-- Settles O14. No notice is given because none is made: those of the link after the step were pending before it. -/
theorem tariffDiscardEmpties : Obligations.TariffDiscardEmpties := by
  intro s r free
  have taken := sameBlocks_taking s r .tariffDiscard
  obtain ⟨pending, placed⟩ := notices_of_settle (s := (((s.taking r .tariffDiscard).setStaging []).setRet
    { s.ret with awaiting := none }).respond 7 _) free.isOpen.outbound
  exact ⟨_, exec_tariffDiscard free, rfl, rfl, rfl, answered_respond_settle _ _ _, pending, placed, free.isOpen.walk,
    sameBlocks_respond_settle ((taken.setStaging _).setRet _) _ _⟩

end Sys2Proof.Machine

/-! PROOF. SNAPSHOT and SNAPSHOT READ at a free link: the latch of R138 and its release by R139. -/

namespace Sys2Proof.Machine

/-- R163: a request answered at once ends in a state with its answer given, no walk begun, and the blocks as its owner left
them. -/
theorem exec_commandOf_answered {s v u : State} {r : Running} {q : Request} {a : Answer} (free : s.LinkFree r)
    (hq : q ≠ .restart) (handled : (s.taking r q).handle q = (u, some a)) (walk : u.walk = none)
    (blocks : SameBlocks v u) :
    ∃ t, exec (commandOf q) s = .next t ∧ t.walk = none ∧ t.Answered (requestCode q) a ∧ SameBlocks v t :=
  ⟨_, exec_commandOf_of_handle free hq handled, walk, answered_respond_settle _ _ _,
    sameBlocks_respond_settle blocks _ _⟩

/-- R138: with none held, SNAPSHOT latches the state as it stands. -/
theorem reqSnapshot_of_none {s : State} (h : s.ret.snapshot = none) :
    reqSnapshot s = (s.setRet { s.ret with
      snapshot := some (Snapshot.mk s.ret.box s.ret.clock.time s.ret.door.doorOpen s.ret.door.boxAbsent s.openRound) },
      .done (.snapshotAt s.ret.clock.time false)) := by
  rw [reqSnapshot, h]
  rfl

/-- R138: a held snapshot stays as it was latched, and SNAPSHOT answers its time. -/
theorem reqSnapshot_of_some {s : State} {x : Snapshot} (h : s.ret.snapshot = some x) :
    reqSnapshot s = (s, .done (.snapshotAt x.time true)) := by
  rw [reqSnapshot, h]

/-- R139: with none held, SNAPSHOT READ is refused. -/
theorem reqSnapshotRead_of_none {s : State} (h : s.ret.snapshot = none) :
    reqSnapshotRead s = (s, .refuse .noSnapshot) := by
  rw [reqSnapshotRead, h]

/-- R139: a held snapshot is given whole and released. -/
theorem reqSnapshotRead_of_some {s : State} {x : Snapshot} (h : s.ret.snapshot = some x) :
    reqSnapshotRead s = (s.setRet { s.ret with snapshot := none }, .done (.snapshot x)) := by
  rw [reqSnapshotRead, h]

/-- Settles O35. The two clauses split on whether a snapshot is held; taking the request leaves the retained items, so each
case is the law of its request in the state before the step. -/
theorem snapshotLatchedAndReleased : Obligations.SnapshotLatchedAndReleased := by
  intro s r free
  have taken := sameBlocks_taking s r
  have walk := free.isOpen.walk
  refine ⟨fun noneHeld => ⟨?latched, ?refused⟩, fun x held => ⟨?kept, ?released⟩⟩
  case latched =>
    have answer := reqSnapshot_of_none (s := s.taking r .snapshot) noneHeld
    exact exec_commandOf_answered (q := .snapshot) free nofun (congrArg atOnce answer) walk ((taken _).setRet _)
  case refused =>
    have answer := reqSnapshotRead_of_none (s := s.taking r .snapshotRead) noneHeld
    exact exec_commandOf_answered (q := .snapshotRead) free nofun (congrArg atOnce answer) walk (taken _)
  case kept =>
    have answer := reqSnapshot_of_some (s := s.taking r .snapshot) held
    exact exec_commandOf_answered (q := .snapshot) free nofun (congrArg atOnce answer) walk (taken _)
  case released =>
    have answer := reqSnapshotRead_of_some (s := s.taking r .snapshotRead) held
    exact exec_commandOf_answered (q := .snapshotRead) free nofun (congrArg atOnce answer) walk ((taken _).setRet _)

end Sys2Proof.Machine

/-! PROOF. FAULT READ at a free link: the table of R159, and the inbox of a sink. -/

namespace Sys2Proof.Machine

/-! ### The response changes the link only -/

section Respond
variable (u : State) (code : Nat) (a : Answer)

@[simp] theorem respond_walk : (u.respond code a).walk = u.walk := rfl
@[simp] theorem respond_ret : (u.respond code a).ret = u.ret := rfl
@[simp] theorem respond_chan : (u.respond code a).chan = u.chan := rfl
@[simp] theorem respond_faults : (u.respond code a).faults = u.faults := rfl

end Respond

/-! ### FAULT READ -/

/-- R159: a FAULT READ of the inbox at a sink gives the four oldest reports, removes them and clears the overflow flag. -/
theorem reqFaultRead_inbox_of_sink {s : State} (h : s.isSink = true) :
    reqFaultRead .inbox s = (s.setFaults { s.faults with inbox := s.faults.inbox.drop 4, overflow := false },
      .done (.inbox (s.faults.inbox.take 4) (s.faults.inbox.length - 4) s.faults.overflow)) := by
  simp [reqFaultRead, h]

/-- R159: elsewhere it is refused. -/
theorem reqFaultRead_inbox_of_not_sink {s : State} (h : s.isSink = false) :
    reqFaultRead .inbox s = (s, .refuse .notSink) := by
  simp [reqFaultRead, h]

/-- A request taken at a started station finds the sink role of the configuration in force. -/
theorem isSink_taking {s : State} {r : Running} (h : s.LinkFree r) (q : Request) :
    (s.taking r q).isSink = r.config.sink := by
  simp [State.isSink, h.running]

theorem exec_faultRead_inbox_of_sink {s : State} {r : Running} (h : s.LinkFree r) (sink : r.config.sink = true) :
    exec (.faultRead .inbox) s = .next (((s.taking r (.faultRead .inbox)).setFaults
      { (s.taking r (.faultRead .inbox)).faults with inbox := s.faults.inbox.drop 4, overflow := false }).respond 21
        (.done (.inbox (s.faults.inbox.take 4) (s.faults.inbox.length - 4) s.faults.overflow))).settle :=
  exec_commandOf_of_handle (q := .faultRead .inbox) h nofun
    (congrArg atOnce (reqFaultRead_inbox_of_sink ((isSink_taking h _).trans sink)))

/-- Settles O39. The inbox clauses split on the sink role, which taking the request leaves as it is. The overflow flag is none
of `SameBlocks`, so the sink's clause goes through the state the step ends in. -/
theorem faultReadGives : Obligations.FaultReadGives := by
  intro s r free
  have taken := sameBlocks_taking s r
  have walk := free.isOpen.walk
  refine ⟨?table, fun sink => ?inbox, fun notSink => ?refused⟩
  case table =>
    obtain ⟨t, step, walk, answered, blocks⟩ :=
      exec_commandOf_answered (q := .faultRead .table) free nofun rfl walk (taken _)
    exact ⟨t, step, walk, blocks, answered⟩
  case inbox =>
    have kept := taken (.faultRead .inbox)
    exact ⟨_, exec_faultRead_inbox_of_sink free sink, by simp [walk], by simp, by simp, by simp [kept.table],
      by simp [kept.ret], by simp [kept.chan], answered_respond_settle _ _ _⟩
  case refused =>
    have answer := reqFaultRead_inbox_of_not_sink ((isSink_taking free (.faultRead .inbox)).trans notSink)
    obtain ⟨t, step, walk, answered, blocks⟩ :=
      exec_commandOf_answered (q := .faultRead .inbox) free nofun (congrArg atOnce answer) walk (taken _)
    exact ⟨t, step, walk, blocks, answered⟩

end Sys2Proof.Machine

/-! PROOF. Reports: what the making, dealing and offering of fault reports, the giving of notices and the handing of frames
leave of the fault table, and how far they let the queue and the inbox grow. -/

namespace Sys2Proof.Machine

/-- A fault entry without what its reports leave on it (R155). -/
def FaultEntry.core (e : FaultEntry) : FaultEntry := { e with lastReported := none, deferred := none, lastAdmitted := none }

section Core
variable (e : FaultEntry)

@[simp] theorem core_active : e.core.active = e.active := rfl
@[simp] theorem core_raisedAt : e.core.raisedAt = e.raisedAt := rfl
@[simp] theorem core_clearedAt : e.core.clearedAt = e.clearedAt := rfl
@[simp] theorem core_occurrences : e.core.occurrences = e.occurrences := rfl
@[simp] theorem core_detail : e.core.detail = e.detail := rfl
@[simp] theorem core_refresh : e.core.refresh = e.refresh := rfl

end Core

/-- From s to t every fault entry keeps its core, no queue or inbox outgrows its size, and the rest is as `SameButReports`
leaves it. -/
structure SameCores (s t : State) : Prop extends SameButReports s t where
  cores : t.faults.table.map FaultEntry.core = s.faults.table.map FaultEntry.core
  queueRoom : t.chan.queue.length ≤ max 16 s.chan.queue.length
  inboxRoom : t.faults.inbox.length ≤ max 64 s.faults.inbox.length

namespace SameCores

theorem refl (s : State) : SameCores s s :=
  { SameButReports.refl s with cores := rfl, queueRoom := le_max_right _ _, inboxRoom := le_max_right _ _ }

theorem trans {s t u : State} (h : SameCores s t) (k : SameCores t u) : SameCores s u :=
  { h.toSameButReports.trans k.toSameButReports with
    cores := k.cores.trans h.cores
    queueRoom := by have := h.queueRoom; have := k.queueRoom; omega
    inboxRoom := by have := h.inboxRoom; have := k.inboxRoom; omega }

theorem entry {s t : State} (h : SameCores s t) (k : FaultKind) : (t.faultEntry k).core = (s.faultEntry k).core :=
  calc (t.faultEntry k).core = (t.faults.table.map FaultEntry.core).getD (faultCode k) FaultEntry.initial.core :=
        (List.getD_map ..).symm
    _ = (s.faults.table.map FaultEntry.core).getD (faultCode k) FaultEntry.initial.core := by rw [h.cores]
    _ = (s.faultEntry k).core := List.getD_map ..

theorem tableLength {s t : State} (h : SameCores s t) : t.faults.table.length = s.faults.table.length := by
  simpa using congrArg List.length h.cores

theorem active {s t : State} (h : SameCores s t) (k : FaultKind) : t.faultActive k = s.faultActive k :=
  show (t.faultEntry k).core.active = (s.faultEntry k).core.active from congrArg _ (h.entry k)

end SameCores

/-- From s to t only reports were made, dealt with or offered, notices given and frames handed: the service state stands too. -/
structure OnlyReports (s t : State) : Prop extends SameCores s t where
  service : t.faults.service = s.faults.service

namespace OnlyReports

theorem refl (s : State) : OnlyReports s s := { SameCores.refl s with service := rfl }

theorem trans {s t u : State} (h : OnlyReports s t) (k : OnlyReports t u) : OnlyReports s u :=
  { h.toSameCores.trans k.toSameCores with service := k.service.trans h.service }

end OnlyReports

/-- An entry replaced by one of the same core leaves every core. -/
theorem onlyReports_setFaultEntry {s : State} {k : FaultKind} {e : FaultEntry} (h : e.core = (s.faultEntry k).core) :
    OnlyReports s (s.setFaultEntry k e) :=
  { sameBut_setFaultEntry s k e with
    cores := by
      rw [setFaultEntry_faults, List.map_set, h]
      refine List.ext_getElem (by simp) fun i hi _ => ?_
      rw [List.getElem_set]
      split
      · next eq =>
        subst eq
        rw [List.getElem_map, State.faultEntry, List.getD_eq_getElem]
      · rfl
    service := rfl
    queueRoom := le_max_right _ _
    inboxRoom := le_max_right _ _ }

theorem onlyReports_setQueue {s : State} {q : List TxEntry} (h : q.length ≤ max 16 s.chan.queue.length) :
    OnlyReports s (s.setQueue q) :=
  { sameBut_setQueue s q with cores := rfl, service := rfl, queueRoom := h, inboxRoom := le_max_right _ _ }

theorem onlyReports_give (s : State) (b : NoticeBody) : OnlyReports s (s.give b) := by
  refine { sameBut_give s b with cores := ?_, service := ?_, queueRoom := ?_, inboxRoom := ?_ }
  all_goals unfold State.give; split <;> simp

theorem onlyReports_deferAfterRefusal (s : State) (n : Nat) (r : FaultReport) :
    OnlyReports s (s.deferAfterRefusal n r) := by
  unfold State.deferAfterRefusal
  dsimp only
  split
  · exact .refl s
  · exact onlyReports_setFaultEntry rfl

theorem onlyReports_marks (s : State) (f : StayEntry → StayEntry) (hf : ∀ x, (f x).record = x.record) :
    OnlyReports s (s.setEntries (s.stay.entries.map f)) :=
  { sameBut_marks s f hf with
    cores := rfl, service := rfl, queueRoom := le_max_right _ _, inboxRoom := le_max_right _ _ }

theorem onlyReports_onEvicted (s : State) (e : TxEntry) : OnlyReports s (s.onEvicted e) := by
  unfold State.onEvicted
  split
  · exact .refl s
  · split
    · exact onlyReports_marks s _ fun x => by split <;> rfl
    · exact onlyReports_deferAfterRefusal s _ _
    · exact .refl s

theorem onEvicted_chan (s : State) (e : TxEntry) : (s.onEvicted e).chan = s.chan := by
  unfold State.onEvicted
  split
  · rfl
  · split
    · rfl
    · unfold State.deferAfterRefusal; dsimp only; split <;> rfl
    · rfl

/-- R10: what gives way is an entry of the queue. -/
theorem mem_of_victim {q : List TxEntry} {v : TxEntry} (h : victim q = some v) : v ∈ q := by
  have mem (c : FrameClass) (h : youngest q c = some v) : v ∈ q :=
    (List.mem_filter.1 (List.mem_of_getLast? h)).1
  unfold victim at h
  cases hb : youngest q .bulk with
  | some w => rw [hb] at h; obtain rfl := Option.some.inj h; exact mem _ hb
  | none => rw [hb] at h; exact mem _ h

theorem onlyReports_admitOwn {s : State} (b : QueuedBody) (h : s.chan.queue.length < 16) :
    OnlyReports s (s.admitOwn b).1 :=
  { sameBut_admitOwn s b with
    cores := rfl, service := rfl, queueRoom := by simp [State.admitOwn]; omega, inboxRoom := le_max_right _ _ }

/-- R9, R10: an own frame handed leaves the queue within its size, whether it joins, takes an entry's place or is refused. -/
theorem onlyReports_handOwn (s : State) (b : QueuedBody) : OnlyReports s (s.handOwn b).1 := by
  unfold State.handOwn
  split
  · exact .refl s
  split
  · exact .refl s
  split
  · next room => exact onlyReports_admitOwn b room
  split
  swap
  · exact .refl s
  split
  · exact .refl s
  next v hv =>
  have mem := mem_of_victim hv
  have shorter := List.length_erase_of_mem mem
  have pos := List.length_pos_of_mem mem
  have evicted := (onlyReports_setQueue (s := s) (q := s.chan.queue.erase v) (by omega)).trans
    (onlyReports_onEvicted _ v)
  refine { evicted.toSameButReports.trans (sameBut_admitOwn _ b) with
    cores := evicted.cores, service := evicted.service, queueRoom := ?_, inboxRoom := evicted.inboxRoom }
  simp [State.admitOwn, onEvicted_chan]
  omega

theorem onlyReports_handCopy (s : State) (b : QueuedBody) (o q h : Nat) (r : Bool) (c : FrameClass) :
    OnlyReports s (s.handCopy b o q h r c) := by
  unfold State.handCopy
  split
  · next room => exact onlyReports_setQueue (by simp; omega)
  · exact .refl s

theorem onlyReports_queueStatus (s : State) : OnlyReports s s.queueStatus := by
  unfold State.queueStatus
  split
  · exact onlyReports_handOwn s _
  · exact .refl s

/-- R158: no report makes the inbox outgrow its 64 places. -/
theorem length_inboxAfter (inbox : List InboxReport) (r : InboxReport) (own : Bool) :
    (inboxAfter inbox r own).1.length ≤ max 64 inbox.length := by
  unfold inboxAfter
  split
  · simp; omega
  split
  · split
    · next x hx =>
      have mem := List.mem_of_find?_eq_some hx
      have := List.length_erase_of_mem mem
      have := List.length_pos_of_mem mem
      simp; omega
    · exact le_max_right _ _
  · exact le_max_right _ _

theorem onlyReports_toInbox (s : State) (r : FaultReport) (q : Option Nat) (own : Bool) :
    OnlyReports s (s.toInbox r q own).1 := by
  unfold State.toInbox
  dsimp only
  have h : OnlyReports s (s.setFaults { s.faults with
      inbox := (inboxAfter s.faults.inbox { report := r, seq := q, enteredAt := s.now } own).1,
      overflow := s.faults.overflow ||
        !(inboxAfter s.faults.inbox { report := r, seq := q, enteredAt := s.now } own).2 }) := by
    refine ⟨⟨?same, rfl, le_max_right _ _, length_inboxAfter _ _ _⟩, rfl⟩
    constructor <;> first | rfl | exact ⟨_, rfl⟩
  split
  · exact h.trans (onlyReports_give _ _)
  · exact h

theorem onlyReports_markReported (s : State) (n : Nat) (r : FaultReport) : OnlyReports s (s.markReported n r) :=
  onlyReports_setFaultEntry rfl

theorem onlyReports_dealReport (s : State) (n : Nat) (r : FaultReport) : OnlyReports s (s.dealReport n r) := by
  unfold State.dealReport
  dsimp only
  split
  · have inbox := onlyReports_toInbox s { r with origin := s.own } none true
    split
    · exact inbox.trans (onlyReports_markReported _ _ _)
    · exact inbox
  split
  · have handed := onlyReports_handOwn s (.fault n { r with origin := s.own })
    split
    · next e => rw [e] at handed; exact handed.trans (onlyReports_deferAfterRefusal _ _ _)
    · next e => rw [e] at handed; exact handed.trans (onlyReports_markReported _ _ _)
  · exact onlyReports_setFaultEntry rfl

theorem onlyReports_makeReport (s : State) (k : FaultKind) (t : Transition) : OnlyReports s (s.makeReport k t) := by
  have numbered : OnlyReports s (s.setFaults { s.faults with made := s.faults.made + 1 }) := by
    refine ⟨⟨?same, rfl, le_max_right _ _, le_max_right _ _⟩, rfl⟩
    constructor <;> first | rfl | exact ⟨_, rfl⟩
  exact numbered.trans (onlyReports_dealReport _ _ _)

theorem onlyReports_offerOne (s : State) (d : MadeReport) : OnlyReports s (s.offerOne d).1 := by
  unfold State.offerOne
  dsimp only
  split
  · have inbox := onlyReports_toInbox s { d.report with origin := s.own } none true
    refine .trans ?_ (onlyReports_setFaultEntry rfl)
    split
    · exact inbox.trans (onlyReports_markReported _ _ _)
    · exact inbox
  · have handed := onlyReports_handOwn s (.fault d.made { d.report with origin := s.own })
    split
    · next e => rw [e] at handed; exact handed
    · next e =>
      rw [e] at handed
      exact (handed.trans (onlyReports_markReported _ _ _)).trans (onlyReports_setFaultEntry rfl)

theorem onlyReports_offerAll (ds : List MadeReport) : ∀ s : State, OnlyReports s (s.offerAll ds) := by
  induction ds with
  | nil => exact .refl
  | cons d ds ih =>
    intro s
    have first := onlyReports_offerOne s d
    unfold State.offerAll
    split
    · next e => rw [e] at first; exact first.trans (ih _)
    · next e => rw [e] at first; exact first

theorem onlyReports_offerDeferred (s : State) : OnlyReports s s.offerDeferred := onlyReports_offerAll _ s

end Sys2Proof.Machine

/-! PROOF. The fault table and the service state: what a raise, a clear and a derivation set (R148, R149, R152). -/

namespace Sys2Proof.Machine

/-! ### The service state derived (R151) -/

/-- R151: the service state is read off the active flags and the compartment alone. -/
theorem derivedService_congr {s t : State} (active : ∀ k, t.faultActive k = s.faultActive k)
    (compartment : t.compartmentOpen = s.compartmentOpen) : t.derivedService = s.derivedService := by
  have active : t.faultActive = s.faultActive := funext active
  unfold State.derivedService State.serviceFault State.cashBarred State.cardBarred
  rw [active, compartment]

theorem SameButReports.door {s t : State} (h : SameButReports s t) : t.ret.door = s.ret.door := by
  obtain ⟨q, e⟩ := h.ret
  rw [e]

theorem SameCores.derivedService {s t : State} (h : SameCores s t) : t.derivedService = s.derivedService :=
  derivedService_congr h.active (by simp [State.compartmentOpen, h.door])

/-- R152: a derivation sets the service state, and else gives notice and hands a frame. -/
theorem onlyReports_derive (s : State) (c : ServiceCause) :
    OnlyReports (s.setFaults { s.faults with service := s.derivedService }) (s.derive c) := by
  unfold State.derive
  dsimp only
  split
  · next stands => rw [stands]; exact .refl s
  · exact (onlyReports_give _ _).trans (onlyReports_queueStatus _)

theorem sameCores_setService (s : State) (v : ServiceState) : SameCores s (s.setFaults { s.faults with service := v }) := by
  refine ⟨?same, rfl, le_max_right _ _, le_max_right _ _⟩
  constructor <;> first | rfl | exact ⟨_, rfl⟩

theorem sameCores_derive (s : State) (c : ServiceCause) : SameCores s (s.derive c) :=
  (sameCores_setService s _).trans (onlyReports_derive s c).toSameCores

theorem sameCores_deriveIf (s : State) (loud : Bool) (c : ServiceCause) : SameCores s (s.deriveIf loud c) := by
  cases loud
  · exact .refl s
  · exact sameCores_derive s c

@[simp] theorem service_derive (s : State) (c : ServiceCause) : (s.derive c).faults.service = s.derivedService :=
  (onlyReports_derive s c).service

/-- R152: after a derivation the service state is the one derived. -/
theorem derive_derived (s : State) (c : ServiceCause) : (s.derive c).faults.service = (s.derive c).derivedService :=
  (service_derive s c).trans (sameCores_derive s c).derivedService.symm

/-! ### The entries of the fault table -/

theorem faultCode_injective : Function.Injective faultCode := by
  intro j k h
  cases j <;> cases k <;> first | rfl | exact absurd h (by decide)

theorem faultCode_lt (k : FaultKind) : faultCode k < 22 := by cases k <;> decide

theorem faultEntry_setFaultEntry_self {s : State} {k : FaultKind} (e : FaultEntry)
    (h : faultCode k < s.faults.table.length) : (s.setFaultEntry k e).faultEntry k = e := by
  simp [State.faultEntry, List.getD_eq_getElem?_getD, h]

theorem faultEntry_setFaultEntry_other {s : State} {j k : FaultKind} (e : FaultEntry) (h : j ≠ k) :
    (s.setFaultEntry k e).faultEntry j = s.faultEntry j := by
  have : faultCode k ≠ faultCode j := fun x => h (faultCode_injective x).symm
  simp [State.faultEntry, List.getD_eq_getElem?_getD, this]

/-- An entry replaced by one of the same active flag leaves every active flag, whatever the table's length. -/
theorem faultActive_setFaultEntry {s : State} {k : FaultKind} {e : FaultEntry} (h : e.active = s.faultActive k)
    (j : FaultKind) : (s.setFaultEntry k e).faultActive j = s.faultActive j := by
  by_cases same : j = k
  · subst same
    by_cases inside : faultCode j < s.faults.table.length
    · rw [State.faultActive, faultEntry_setFaultEntry_self e inside, h]
    · rw [State.faultActive, State.faultActive, State.faultEntry, State.faultEntry, setFaultEntry_faults,
        List.set_eq_of_length_le (by omega)]
  · rw [State.faultActive, faultEntry_setFaultEntry_other e same, State.faultActive]

/-! ### Raise and clear (R148, R149) -/

/-- R148: the entry of a kind as a raise sets it, before its report is made. -/
def State.raisedEntry (s : State) (k : FaultKind) (detail : Nat) : FaultEntry :=
  let e := s.faultEntry k
  let e' := { e with raisedAt := some s.now, occurrences := countUp e.occurrences, detail := detail % wordSpan }
  if isEventKind k then e' else { e' with active := true, refresh := some 600 }

/-- R149: the entry of a kind as a clear sets it, before its report is made. -/
def State.clearedEntry (s : State) (k : FaultKind) : FaultEntry :=
  { s.faultEntry k with active := false, clearedAt := some s.now, refresh := none }

/-- R148: a raise of an event kind sets its entry and makes a report of it. -/
theorem raiseIf_of_event {k : FaultKind} (h : isEventKind k = true) (s : State) (loud : Bool) (d : Nat) :
    s.raiseIf loud k d = (s.setFaultEntry k (s.raisedEntry k d)).makeReport k .raised := by
  simp [State.raiseIf, State.raisedEntry, h]

/-- R148: a raise of a condition sets its entry, makes a report of it, and derives the service state. -/
theorem raiseIf_of_condition {k : FaultKind} (h : isEventKind k = false) (s : State) (loud : Bool) (d : Nat) :
    s.raiseIf loud k d =
      ((s.setFaultEntry k (s.raisedEntry k d)).makeReport k .raised).deriveIf loud (.fault k) := by
  simp [State.raiseIf, State.raisedEntry, h]

/-- R149: a clear of an active entry sets it, makes a report of it, and derives the service state. -/
theorem clearIf_of_active {s : State} {k : FaultKind} (h : s.faultActive k = true) (loud : Bool) :
    s.clearIf loud k = ((s.setFaultEntry k (s.clearedEntry k)).makeReport k .cleared).deriveIf loud (.fault k) := by
  have active : (s.faultEntry k).active = true := h
  simp [State.clearIf, State.clearedEntry, active]

/-- R149: a clear of an inactive entry changes nothing. -/
theorem clearIf_of_inactive {s : State} {k : FaultKind} (h : s.faultActive k = false) (loud : Bool) :
    s.clearIf loud k = s := by
  have inactive : (s.faultEntry k).active = false := h
  simp [State.clearIf, inactive]

theorem sameCores_raiseIf (s : State) (loud : Bool) (k : FaultKind) (d : Nat) :
    SameCores (s.setFaultEntry k (s.raisedEntry k d)) (s.raiseIf loud k d) := by
  cases h : isEventKind k
  · rw [raiseIf_of_condition h]
    exact (onlyReports_makeReport _ _ _).toSameCores.trans (sameCores_deriveIf _ _ _)
  · rw [raiseIf_of_event h]
    exact (onlyReports_makeReport _ _ _).toSameCores

theorem sameCores_clearIf {s : State} {k : FaultKind} (h : s.faultActive k = true) (loud : Bool) :
    SameCores (s.setFaultEntry k (s.clearedEntry k)) (s.clearIf loud k) := by
  rw [clearIf_of_active h]
  exact (onlyReports_makeReport _ _ _).toSameCores.trans (sameCores_deriveIf _ _ _)

/-- R148: what a raise leaves in the entry of its kind. -/
theorem raiseIf_entry {s : State} {k : FaultKind} (h : faultCode k < s.faults.table.length) (loud : Bool) (d : Nat) :
    ((s.raiseIf loud k d).faultEntry k).core = (s.raisedEntry k d).core := by
  rw [(sameCores_raiseIf s loud k d).entry, faultEntry_setFaultEntry_self _ h]

theorem raiseIf_entry_other {j k : FaultKind} (h : j ≠ k) (s : State) (loud : Bool) (d : Nat) :
    ((s.raiseIf loud k d).faultEntry j).core = (s.faultEntry j).core := by
  rw [(sameCores_raiseIf s loud k d).entry, faultEntry_setFaultEntry_other _ h]

/-- An active entry has its place in the table. -/
theorem lt_of_faultActive {s : State} {k : FaultKind} (h : s.faultActive k = true) :
    faultCode k < s.faults.table.length := by
  by_contra outside
  rw [State.faultActive, State.faultEntry, List.getD_eq_default _ _ (by omega)] at h
  exact absurd h (by decide)

/-- R149: what a clear leaves in the entry of its kind. -/
theorem clearIf_entry {s : State} {k : FaultKind} (h : s.faultActive k = true) (loud : Bool) :
    ((s.clearIf loud k).faultEntry k).core = (s.clearedEntry k).core := by
  rw [(sameCores_clearIf h loud).entry, faultEntry_setFaultEntry_self _ (lt_of_faultActive h)]

theorem clearIf_entry_other {j k : FaultKind} (h : j ≠ k) (s : State) (loud : Bool) :
    ((s.clearIf loud k).faultEntry j).core = (s.faultEntry j).core := by
  cases active : s.faultActive k
  · rw [clearIf_of_inactive active]
  · rw [(sameCores_clearIf active loud).entry, faultEntry_setFaultEntry_other _ h]

/-- R149: after a clear the entry is inactive. -/
theorem clearIf_inactive (s : State) (loud : Bool) (k : FaultKind) : (s.clearIf loud k).faultActive k = false := by
  cases active : s.faultActive k
  · rw [clearIf_of_inactive active, active]
  · exact (congrArg FaultEntry.active (clearIf_entry active loud) : _)

theorem raiseIf_active_other {j k : FaultKind} (h : j ≠ k) (s : State) (loud : Bool) (d : Nat) :
    (s.raiseIf loud k d).faultActive j = s.faultActive j :=
  (congrArg FaultEntry.active (raiseIf_entry_other h s loud d) : _)

theorem clearIf_active_other {j k : FaultKind} (h : j ≠ k) (s : State) (loud : Bool) :
    (s.clearIf loud k).faultActive j = s.faultActive j :=
  (congrArg FaultEntry.active (clearIf_entry_other h s loud) : _)

theorem raiseIf_tableLength (s : State) (loud : Bool) (k : FaultKind) (d : Nat) :
    (s.raiseIf loud k d).faults.table.length = s.faults.table.length := by
  rw [(sameCores_raiseIf s loud k d).tableLength]; simp

theorem clearIf_tableLength (s : State) (loud : Bool) (k : FaultKind) :
    (s.clearIf loud k).faults.table.length = s.faults.table.length := by
  cases active : s.faultActive k
  · rw [clearIf_of_inactive active]
  · rw [(sameCores_clearIf active loud).tableLength]; simp

/-! ### The service state after them (R152) -/

/-- R152: the service state is the one derived, whatever the power. -/
def State.Derived (s : State) : Prop := s.faults.service = s.derivedService

theorem OnlyReports.derived {s t : State} (h : OnlyReports s t) (d : s.Derived) : t.Derived :=
  (h.service.trans d).trans h.derivedService.symm

theorem raise_derived {s : State} (k : FaultKind) (d : Nat) (h : isEventKind k = true → s.Derived) :
    (s.raise k d).Derived := by
  cases event : isEventKind k
  · rw [State.raise, raiseIf_of_condition event]
    exact derive_derived _ _
  · rw [State.raise, raiseIf_of_event event]
    refine (onlyReports_makeReport _ _ _).derived ?_
    have active := faultActive_setFaultEntry (s := s) (k := k) (e := s.raisedEntry k d)
      (by simp [State.raisedEntry, event, State.faultActive])
    exact (h event).trans (derivedService_congr active rfl).symm

theorem clear_derived {s : State} (k : FaultKind) (h : s.faultActive k = false → s.Derived) : (s.clear k).Derived := by
  cases active : s.faultActive k
  · rw [State.clear, clearIf_of_inactive active]
    exact h active
  · rw [State.clear, clearIf_of_active active]
    exact derive_derived _ _

end Sys2Proof.Machine

/-! PROOF. The invariants kept by the shared operations and the cash unit. `Keeps` is the conjunction of "what held still
holds" over every invariant, so it composes along an operation's parts, and each operation needs one lemma. -/

namespace Sys2Proof.Machine

/-- From s to t every invariant of the model is kept. Within a start (`loud` false, R152) the derived service state is not
asked for: the start derives it at its end. -/
structure Keeps (loud : Bool) (s t : State) : Prop where
  clock : clockInRange s → clockInRange t := by exact fun x => x
  staging : stagingInForm s → stagingInForm t := by exact fun x => x
  service : loud = true → serviceDerived s → serviceDerived t := by exact fun _ x => x
  distance : distanceLegal s → distanceLegal t := by exact fun x => x
  bounded : s.Bounded → t.Bounded := by
    exact fun h => ⟨h.queue, h.neighbours, h.records, h.ranges, h.claims, h.table, h.quiet, h.inbox⟩
  ordered : s.Bounded → s.StayOrdered → t.StayOrdered := by exact fun _ h => ⟨h.order, h.identities⟩
  flight : s.OneFlight → t.OneFlight := by exact fun h => ⟨h.atMost, h.carried⟩
  box : s.BoxBalanced → t.BoxBalanced := by
    exact fun h => ⟨h.counted, h.items, h.value, h.accounts, h.room, h.capacity, h.inForce, h.waiting,
      fun w e => ⟨(h.walk w e).begun, (h.walk w e).tender⟩⟩

namespace Keeps

theorem refl {loud : Bool} (s : State) : Keeps loud s s := {}

theorem trans {loud : Bool} {s t u : State} (h : Keeps loud s t) (k : Keeps loud t u) : Keeps loud s u where
  clock x := k.clock (h.clock x)
  staging x := k.staging (h.staging x)
  service l x := k.service l (h.service l x)
  distance x := k.distance (h.distance x)
  bounded x := k.bounded (h.bounded x)
  ordered b x := k.ordered (h.bounded b) (h.ordered b x)
  flight x := k.flight (h.flight x)
  box x := k.box (h.box x)

/-- What keeps the derived service state too keeps the invariants within a start. -/
theorem quiet {loud : Bool} {s t : State} (h : Keeps true s t) : Keeps loud s t :=
  { h with service := fun _ => h.service rfl }

end Keeps

/-! ### The parts of the state that the invariants read -/

theorem distanceLegal_congr {s t : State} (running : t.link.running = s.link.running)
    (distance : t.chan.distance = s.chan.distance) (h : distanceLegal s) : distanceLegal t := by
  unfold distanceLegal State.isSink at *
  rwa [running, distance]

/-- R82: the order of the table and the identities are those of its records. -/
theorem stayOrdered_iff (s : State) : s.StayOrdered ↔
    (s.stay.entries.map StayEntry.record).Pairwise
      (fun x y => (tableKey x).before (tableKey y) = true ∧ x.id ≠ y.id) := by
  rw [List.pairwise_map, List.pairwise_and_iff]
  exact ⟨fun h => ⟨h.order, h.identities⟩, fun h => ⟨h.1, h.2⟩⟩

theorem stayOrdered_congr {s t : State}
    (h : t.stay.entries.map StayEntry.record = s.stay.entries.map StayEntry.record) (o : s.StayOrdered) :
    t.StayOrdered := by
  rw [stayOrdered_iff] at *
  rwa [h]

theorem oneFlight_congr {s t : State} (h : t.permits = s.permits) (o : s.OneFlight) : t.OneFlight := by
  constructor <;> rw [h]
  · exact o.atMost
  · exact o.carried

theorem boxBalanced_congr {s t : State} (box : t.ret.box = s.ret.box) (capacity : t.cash.capacity = s.cash.capacity)
    (waiting : t.cash.waitingSet = s.cash.waitingSet) (walk : t.walk = s.walk) (b : s.BoxBalanced) : t.BoxBalanced := by
  constructor
  case walk =>
    intro w hw
    obtain ⟨begun, tender⟩ := b.walk w (walk ▸ hw)
    exact ⟨begun, by rw [box]; exact tender⟩
  all_goals first | rw [box] | rw [capacity] | rw [waiting]
  exacts [b.counted, b.items, b.value, b.accounts, b.room, b.capacity, b.inForce, b.waiting]

theorem SameButReports.clock {s t : State} (h : SameButReports s t) : t.ret.clock = s.ret.clock := by
  obtain ⟨q, e⟩ := h.ret
  rw [e]

theorem SameButReports.box {s t : State} (h : SameButReports s t) : t.ret.box = s.ret.box := by
  obtain ⟨q, e⟩ := h.ret
  rw [e]

theorem SameButReports.running {s t : State} (h : SameButReports s t) : t.link.running = s.link.running := by
  obtain ⟨n, e⟩ := h.link
  rw [e]

theorem SameButReports.entriesLength {s t : State} (h : SameButReports s t) :
    t.stay.entries.length = s.stay.entries.length := by simpa using congrArg List.length h.records

/-- What leaves all but reports keeps the invariants, given the sizes of what reports touch. -/
theorem keeps_of_sameBut {loud : Bool} {s t : State} (h : SameButReports s t)
    (tableLength : t.faults.table.length = s.faults.table.length)
    (queueRoom : t.chan.queue.length ≤ max 16 s.chan.queue.length)
    (inboxRoom : t.faults.inbox.length ≤ max 64 s.faults.inbox.length)
    (service : loud = true → serviceDerived s → serviceDerived t) : Keeps loud s t where
  clock := by rw [clockInRange, clockInRange, h.clock]; exact id
  staging := by rw [stagingInForm, stagingInForm, h.staging]; exact id
  service := service
  distance := distanceLegal_congr h.running (by obtain ⟨q, e⟩ := h.chan; rw [e])
  bounded b := by
    obtain ⟨q, chan⟩ := h.chan
    obtain ⟨n, ret⟩ := h.ret
    refine ⟨queueRoom.trans (max_le le_rfl b.queue), ?_, h.entriesLength ▸ b.records, ?_, h.permits ▸ b.claims,
      tableLength ▸ b.table, h.quiet ▸ b.quiet, inboxRoom.trans (max_le le_rfl b.inbox)⟩
    · rw [chan]; exact b.neighbours
    · rw [ret]; exact b.ranges
  ordered _ := stayOrdered_congr h.records
  flight := oneFlight_congr h.permits
  box := boxBalanced_congr h.box (by rw [h.cash]) (by rw [h.cash]) h.walk

theorem serviceDerived_of_derived {s t : State} (power : t.supply.power = s.supply.power) (h : s.Derived → t.Derived) :
    serviceDerived s → serviceDerived t := fun d on => h (d (power ▸ on))

theorem keeps_of_onlyReports {loud : Bool} {s t : State} (h : OnlyReports s t) : Keeps loud s t :=
  keeps_of_sameBut h.toSameButReports h.tableLength h.queueRoom h.inboxRoom fun _ =>
    serviceDerived_of_derived (by rw [h.supply]) h.derived

/-- R152: what changes the door record, or the fault table, and derives the service state keeps the invariants. -/
theorem keeps_deriveIf {loud : Bool} {s u : State} (c : ServiceCause) (h : Keeps false s u)  :
    Keeps loud s (u.deriveIf loud c) := by
  have derive := sameCores_deriveIf u loud c
  have kept : Keeps false u (u.deriveIf loud c) :=
    keeps_of_sameBut derive.toSameButReports derive.tableLength derive.queueRoom derive.inboxRoom nofun
  refine { h.trans kept with service := fun l _ _ => ?_ }
  subst l
  exact derive_derived u c

theorem keeps_setFaultEntry (s : State) (k : FaultKind) (e : FaultEntry) : Keeps false s (s.setFaultEntry k e) :=
  keeps_of_sameBut (sameBut_setFaultEntry s k e) (by simp) (le_max_right _ _) (le_max_right _ _) nofun

theorem keeps_raiseIf (s : State) (loud : Bool) (k : FaultKind) (d : Nat) : Keeps loud s (s.raiseIf loud k d) := by
  have cores := sameCores_raiseIf s loud k d
  have kept : Keeps false s (s.raiseIf loud k d) := (keeps_setFaultEntry s k _).trans
    (keeps_of_sameBut cores.toSameButReports cores.tableLength cores.queueRoom cores.inboxRoom nofun)
  refine { kept with service := fun l => ?_ }
  subst l
  exact serviceDerived_of_derived (by rw [cores.supply]; rfl) fun h => raise_derived k d fun _ => h

theorem keeps_clearIf (s : State) (loud : Bool) (k : FaultKind) : Keeps loud s (s.clearIf loud k) := by
  cases active : s.faultActive k
  · rw [clearIf_of_inactive active]
    exact .refl s
  · have cores := sameCores_clearIf active loud
    have kept : Keeps false s (s.clearIf loud k) := (keeps_setFaultEntry s k _).trans
      (keeps_of_sameBut cores.toSameButReports cores.tableLength cores.queueRoom cores.inboxRoom nofun)
    refine { kept with service := fun l => ?_ }
    subst l
    exact serviceDerived_of_derived (by rw [cores.supply]; rfl) fun h => clear_derived k fun _ => h

theorem keeps_raise {loud : Bool} (s : State) (k : FaultKind) (d : Nat) : Keeps loud s (s.raise k d) :=
  (keeps_raiseIf s true k d).quiet

theorem keeps_clear {loud : Bool} (s : State) (k : FaultKind) : Keeps loud s (s.clear k) := (keeps_clearIf s true k).quiet

section Handed
variable {loud : Bool} (s : State)

theorem keeps_give (b : NoticeBody) : Keeps loud s (s.give b) := keeps_of_onlyReports (onlyReports_give s b)

theorem keeps_handOwn (b : QueuedBody) : Keeps loud s (s.handOwn b).1 := keeps_of_onlyReports (onlyReports_handOwn s b)

theorem keeps_queueStatus : Keeps loud s s.queueStatus := keeps_of_onlyReports (onlyReports_queueStatus s)

theorem keeps_offerDeferred : Keeps loud s s.offerDeferred := keeps_of_onlyReports (onlyReports_offerDeferred s)

theorem keeps_makeReport (k : FaultKind) (t : Transition) : Keeps loud s (s.makeReport k t) :=
  keeps_of_onlyReports (onlyReports_makeReport s k t)

end Handed

/-! ### Sink distance and neighbours (R22, R34, R54) -/

/-- R22: the neighbour table gives a distance from 1 to 7. -/
theorem neighbourDistance_range (ns : List Neighbour) : 1 ≤ neighbourDistance ns ∧ neighbourDistance ns ≤ 7 := by
  unfold neighbourDistance
  suffices h : ∀ d, 1 ≤ d ∧ d ≤ 7 → 1 ≤ ns.foldl _ d ∧ ns.foldl _ d ≤ 7 from h 7 (by decide)
  induction ns with
  | nil => exact fun _ range => range
  | cons e es ih =>
    refine fun d range => ih _ ?_
    dsimp only
    split
    · split <;> omega
    · exact range

/-- R22: the recomputed distance is legal. -/
theorem distanceNow_legal (s : State) : distanceLegal (s.setChan { s.chan with distance := s.distanceNow }) := by
  have range := neighbourDistance_range s.chan.neighbours
  have same : (s.setChan { s.chan with distance := s.distanceNow }).isSink = s.isSink := rfl
  rw [distanceLegal, same, setChan_chan, State.distanceNow]
  split
  · rfl
  · split
    · exact range
    · exact ⟨Nat.le_add_left 1 6, le_rfl⟩

theorem keeps_recomputeDistance {loud : Bool} (s : State) : Keeps loud s s.recomputeDistance := by
  have set : Keeps loud s (s.setChan { s.chan with distance := s.distanceNow }) := { distance := fun _ => distanceNow_legal s }
  unfold State.recomputeDistance
  dsimp only
  split
  · exact set.trans (keeps_offerDeferred _)
  · exact set

theorem keeps_reconsiderClocks {loud : Bool} (s : State) : Keeps loud s s.reconsiderClocks := by
  unfold State.reconsiderClocks
  split
  · split
    · exact .refl s
    · exact keeps_raise s _ _
  · exact keeps_clear s _

theorem keeps_reconsiderTariffIf (s : State) (loud : Bool) : Keeps loud s (s.reconsiderTariffIf loud) := by
  unfold State.reconsiderTariffIf
  split
  · exact keeps_clearIf s _ _
  · split
    · exact .refl s
    · exact keeps_raiseIf s _ _ _

theorem keeps_neighboursChanged (s : State) : Keeps true s s.neighboursChanged :=
  ((keeps_recomputeDistance s).trans (keeps_reconsiderClocks _)).trans (keeps_reconsiderTariffIf _ _)

theorem keeps_setNeighbour {loud : Bool} (s : State) (n : Nat) (e : Neighbour) : Keeps loud s (s.setNeighbour n e) where
  bounded h := { h with neighbours := by simpa using h.neighbours }

/-! ### Rounds, and the fill band (R129, R140 to R145) -/

section Rounds
variable {loud : Bool} (s : State)

theorem keeps_setRound (r : Option Round) : Keeps loud s (s.setRound r) := {}

theorem keeps_giveRound (c : RoundCause) : Keeps loud s (s.giveRound c) := by
  unfold State.giveRound
  split
  · exact .refl s
  · exact keeps_give s _

theorem keeps_handEntry : Keeps loud s s.handEntry := by
  unfold State.handEntry
  split
  · exact .refl s
  split
  · split
    · exact keeps_handOwn s _
    · exact .refl s
  · exact .refl s

theorem keeps_expireRound : Keeps loud s s.expireRound := by
  unfold State.expireRound
  split
  · exact .refl s
  split
  · exact (keeps_setRound s _).trans (keeps_giveRound _ _)
  · exact .refl s

theorem keeps_adoptRound (id : RoundId) (w : RoundWord) : Keeps loud s (s.adoptRound id w) :=
  (keeps_setRound s _).trans (keeps_giveRound _ _)

theorem keeps_foldRound (y : Round) (id : RoundId) (w : RoundWord) : Keeps loud s (s.foldRound y id w) := by
  unfold State.foldRound
  dsimp only
  refine .trans ?_ ((keeps_handEntry _).trans (keeps_giveRound _ _))
  exact {}

theorem keeps_sameRound (r : Round) (w : RoundWord) : Keeps loud s (s.sameRound r w) := by
  unfold State.sameRound
  split
  · split
    · exact keeps_setRound s _
    · exact .refl s
  · exact keeps_setRound s _
  · split
    · exact (keeps_setRound s _).trans (keeps_giveRound _ _)
    · exact .refl s
  · exact .refl s

theorem keeps_onRound (id : RoundId) (w : RoundWord) : Keeps loud s (s.onRound id w) := by
  unfold State.onRound
  split
  · exact .refl s
  split
  · split
    · exact .refl s
    · exact keeps_adoptRound s _ _
  split
  · exact keeps_sameRound s _ _
  split
  · exact .refl s
  split
  · split
    · exact keeps_foldRound s _ _ _
    · exact .refl s
  split
  · exact keeps_adoptRound s _ _
  · exact .refl s

theorem keeps_reannounceEntry : Keeps loud s s.reannounceEntry := by
  unfold State.reannounceEntry
  split
  · exact .refl s
  · exact keeps_handEntry s

theorem keeps_give_unless {s u : State} {p : Prop} [Decidable p] {b : NoticeBody} (h : Keeps loud s u) :
    Keeps loud s (if p then u else u.give b) := by
  split
  · exact h
  · exact h.trans (keeps_give _ _)

theorem keeps_findBand : Keeps loud s s.findBand := by
  unfold State.findBand
  split
  · exact .refl s
  next capacity _ =>
  dsimp only
  split
  · exact .refl s
  have left : Keeps loud s (match s.cash.band.bind bandFault with
      | some k => (s.setCash { s.cash with band := some (bandOf s.ret.box.items capacity) }).clear k
      | none => s.setCash { s.cash with band := some (bandOf s.ret.box.items capacity) }) := by
    split
    · exact .trans {} (keeps_clear _ _)
    · exact {}
  refine keeps_give_unless ?_
  split
  · exact left.trans (keeps_raise _ _ _)
  · exact left

end Rounds

/-! ### The door and the box (R130 to R137) -/

section Compartment
variable {loud : Bool} (s : State)

theorem keeps_consume : Keeps loud s s.consume := {}

theorem keeps_openDoor (loud : Bool) : Keeps loud s (s.openDoor loud) := by
  unfold State.openDoor
  dsimp only
  refine .trans ?_ (keeps_give _ _)
  split
  · exact .trans (keeps_deriveIf _ { service := nofun }) (keeps_raiseIf _ _ _ _)
  · exact keeps_deriveIf _ { service := nofun }

theorem keeps_closeDoor (loud : Bool) : Keeps loud s (s.closeDoor loud) := by
  unfold State.closeDoor
  dsimp only
  refine .trans ?_ (keeps_give _ _)
  have cleared := (keeps_deriveIf (loud := loud) (.compartment .closing) (s := s) (u := (s.setDoor { s.ret.door with
    doorOpen := false, closedAt := some s.now }).setCash { s.cash with doorTimer := none })
        { service := nofun }).trans
      (keeps_clearIf _ loud .doorOpenLong)
  split
  · exact cleared
  · exact cleared.trans (keeps_consume _)

theorem keeps_insertBox (loud : Bool) : Keeps loud s (s.insertBox loud) := by
  unfold State.insertBox
  dsimp only
  refine .trans ?_ (keeps_give _ _)
  split
  · exact keeps_deriveIf _ { service := nofun }
  · exact .trans (keeps_deriveIf _ { service := nofun }) (keeps_consume _)

theorem tenderTotal_zero (ds : List Nat) : tenderTotal ds (ds.map fun _ => 0) = 0 := by
  induction ds with
  | nil => rfl
  | cons d ds ih => simpa [tenderTotal] using ih

/-- R134: with the counters zeroed, and a waiting set taken into force, the box is in balance. -/
theorem keeps_zeroBox (c : Option Collection) (d : DoorRecord) (r : Option Round) : Keeps false s
    ((s.setRet { s.ret with
      box := BoxCounters.zero (s.cash.waitingSet.getD s.ret.box.denominations)
      lastCollection := c, door := d, round := r }).setCash { s.cash with waitingSet := none }) where
  service := nofun
  box h := {
    counted := by simp [BoxCounters.zero]
    items := by simp [BoxCounters.zero]
    value := (tenderTotal_zero _).symm
    accounts := rfl
    room := Nat.zero_le _
    capacity := h.capacity
    inForce := by
      cases waiting : s.cash.waitingSet with
      | none => exact h.inForce
      | some ds => exact h.waiting ds waiting
    waiting := nofun
    walk := fun w hw => by
      obtain ⟨begun, tender⟩ := h.walk w hw
      refine ⟨begun, fun terms counts sale cash => ?_⟩
      obtain ⟨length, amount, room⟩ := tender terms counts sale cash
      exact ⟨length, amount, by simp only [setCash_ret, setRet_ret, BoxCounters.zero]; omega⟩ }

theorem keeps_removeBox (loud : Bool) (c : CollectionCause) : Keeps loud s (s.removeBox loud c) := by
  unfold State.removeBox
  dsimp only
  refine .trans ?_ (keeps_give _ _)
  have found : Keeps loud s _ := (keeps_deriveIf (.compartment .removal) (keeps_zeroBox s (some (s.collection c))
    { s.ret.door with boxAbsent := true } (s.filed (s.collection c)))).trans (keeps_findBand _)
  split
  · exact found.trans (keeps_handEntry _)
  · exact found

theorem keeps_doorTimerOver : Keeps loud s s.doorTimerOver := by
  unfold State.doorTimerOver
  split
  · exact .refl s
  · refine .trans ?_ (keeps_raise _ _ _)
    exact {}

theorem keeps_authorize (key : Nat) : Keeps true s (s.authorize key) := by
  unfold State.authorize
  dsimp only
  have authorized : Keeps true s (s.setCash { s.cash with auth := some { key, left := authorizationSeconds } }) := {}
  split
  · exact authorized
  · refine authorized.trans (.trans ?_ (keeps_clear _ _))
    exact {}

theorem keeps_openOrJoin (collector : Nat) : Keeps loud s (s.openOrJoin collector).1 := by
  unfold State.openOrJoin
  split
  · exact keeps_giveRound s _
  · exact ((keeps_setRound s _).trans (keeps_handOwn _ _)).trans (keeps_giveRound _ _)

theorem keeps_reqRoundOpen (key collector : Nat) : Keeps true s (reqRoundOpen key collector s).1 := by
  unfold reqRoundOpen
  split
  · exact .refl s
  · exact (keeps_authorize s key).trans (keeps_openOrJoin _ _)

theorem keeps_reqRoundClose : Keeps loud s (reqRoundClose s).1 := by
  unfold reqRoundClose
  split
  · exact ((keeps_setRound s _).trans (keeps_handOwn _ _)).trans (keeps_giveRound _ _)
  · exact .refl s

theorem keeps_reqSnapshot : Keeps loud s (reqSnapshot s).1 := by
  unfold reqSnapshot
  split
  · exact .refl s
  · exact {}

theorem keeps_reqSnapshotRead : Keeps loud s (reqSnapshotRead s).1 := by
  unfold reqSnapshotRead
  split
  · exact {}
  · exact .refl s

end Compartment

end Sys2Proof.Machine

/-! PROOF. The invariants kept by the stay table, the tariff store, the permit unit and the clock. -/

namespace Sys2Proof.Machine

/-! ### Table order (R82) -/

theorem insertEntry_perm (e : StayEntry) (es : List StayEntry) : (insertEntry e es).Perm (e :: es) := by
  induction es with
  | nil => exact .refl _
  | cons x xs ih =>
    unfold insertEntry
    split
    · exact .refl _
    · exact (ih.cons x).trans (.swap e x xs)

theorem mem_insertEntry {e x : StayEntry} {es : List StayEntry} : x ∈ insertEntry e es ↔ x = e ∨ x ∈ es :=
  (insertEntry_perm e es).mem_iff.trans List.mem_cons

@[simp] theorem length_insertEntry (e : StayEntry) (es : List StayEntry) : (insertEntry e es).length = es.length + 1 :=
  (insertEntry_perm e es).length_eq

theorem TableKey.before_iff (x y : TableKey) : x.before y = true ↔
    x.retire < y.retire ∨ (x.retire = y.retire ∧ (x.origin < y.origin ∨ (x.origin = y.origin ∧
      (x.number < y.number ∨ (x.number = y.number ∧ x.start < y.start))))) := decide_eq_true_iff

theorem TableKey.before_trans {x y z : TableKey} (h : x.before y = true) (k : y.before z = true) : x.before z = true := by
  rw [TableKey.before_iff] at *
  omega

/-- R82: of two records of different identities one stands before the other. -/
theorem before_of_not_before {x y : StayRecord} (ids : y.id ≠ x.id) (h : ¬ (tableKey x).before (tableKey y) = true) :
    (tableKey y).before (tableKey x) = true := by
  have parts : ¬ (y.id.origin = x.id.origin ∧ y.id.number = x.id.number ∧ y.id.start = x.id.start) := by
    rintro ⟨origin, number, start⟩
    exact ids (by cases hy : y.id; cases hx : x.id; simp_all)
  rw [TableKey.before_iff] at *
  simp only [tableKey] at *
  omega

theorem pairwise_before_insertEntry {e : StayEntry} {es : List StayEntry}
    (order : es.Pairwise fun x y => (tableKey x.record).before (tableKey y.record) = true)
    (fresh : ∀ x ∈ es, x.record.id ≠ e.record.id) :
    (insertEntry e es).Pairwise fun x y => (tableKey x.record).before (tableKey y.record) = true := by
  induction es with
  | nil => simp [insertEntry]
  | cons x xs ih =>
    obtain ⟨first, rest⟩ := List.pairwise_cons.1 order
    unfold insertEntry
    split
    · next before =>
      refine List.pairwise_cons.2 ⟨fun y hy => ?_, order⟩
      rcases List.mem_cons.1 hy with rfl | hy
      · exact before
      · exact TableKey.before_trans before (first y hy)
    · next after =>
      refine List.pairwise_cons.2 ⟨fun y hy => ?_, ih rest fun y hy => fresh y (List.mem_cons_of_mem x hy)⟩
      rcases mem_insertEntry.1 hy with rfl | hy
      · exact before_of_not_before (fresh x List.mem_cons_self) after
      · exact first y hy

/-- R82: a record of a new identity put in its place keeps the order and the identities. -/
theorem stayOrdered_insert {s t : State} {e : StayEntry} {es : List StayEntry} (entries : t.stay.entries = insertEntry e es)
    (sub : es.Sublist s.stay.entries) (fresh : ∀ x ∈ es, x.record.id ≠ e.record.id) (h : s.StayOrdered) :
    t.StayOrdered where
  order := by
    rw [entries]
    exact pairwise_before_insertEntry (h.order.sublist sub) fresh
  identities := by
    rw [entries]
    refine (insertEntry_perm e es).symm.pairwise (List.pairwise_cons.2 ⟨?_, h.identities.sublist sub⟩) Ne.symm
    exact fun x hx => (fresh x hx).symm

/-- R82: records taken out of the table keep its order. -/
theorem stayOrdered_sublist {s t : State} (sub : t.stay.entries.Sublist s.stay.entries) (h : s.StayOrdered) :
    t.StayOrdered := ⟨h.order.sublist sub, h.identities.sublist sub⟩

theorem mem_of_removalCandidate {own : Nat} {es : List StayEntry} {c : StayEntry} (h : removalCandidate own es = some c) :
    c ∈ es := by
  unfold removalCandidate at h
  cases found : es.find? fun e => !ownRecord e.record own with
  | some e => rw [found] at h; obtain rfl := Option.some.inj h; exact List.mem_of_find?_eq_some found
  | none => rw [found] at h; exact List.mem_of_head? h

/-- An identity that the table does not hold is no entry's. -/
theorem ne_of_find_none {t : StayTable} {id : Identity} (h : t.find id = none) : ∀ x ∈ t.entries, x.record.id ≠ id :=
  fun x hx => by simpa using List.find?_eq_none.1 h x hx

theorem mem_of_find {t : StayTable} {id : Identity} {e : StayEntry} (h : t.find id = some e) :
    e ∈ t.entries ∧ e.record.id = id :=
  ⟨List.mem_of_find?_eq_some h, by simpa using List.find?_some h⟩

/-! ### One re-announcement (R93), in its parts -/

/-- R93: the records that a re-announcement carries. -/
def State.announcement (s : State) : List StayRecord :=
  (firstPass s.stay ++ secondPass s.stay s.now).map StayEntry.record

/-- R93: the cursor moved to the key of the last record taken in rotation. -/
def State.moveCursor (s : State) : State :=
  match (secondPass s.stay s.now).getLast? with
  | some e => s.setStay { s.stay with cursor := some (tableKey e.record) }
  | none => s

/-- R93, R94: a re-announcement handed; in LOCAL mode it counts as sent. -/
def State.handBulk (s : State) (rs : List StayRecord) : State :=
  match s.handOwn (.stay rs true) with
  | (t, .completed) => t.announced rs
  | (t, _) => t

theorem reannounce_of_none_waiting {s : State}
    (h : (s.chan.queue.any fun e => e.isOwnBulkStay && !e.sending) = false) :
    s.reannounce = if s.announcement.isEmpty then s.moveCursor else s.moveCursor.handBulk s.announcement := by
  rw [State.reannounce, if_neg (by simp [h])]
  rfl

section Stay
variable {loud : Bool} (s : State)

theorem keeps_setEntries_sublist {es : List StayEntry} (sub : es.Sublist s.stay.entries) :
    Keeps loud s (s.setEntries es) where
  bounded h := { h with records := sub.length_le.trans h.records }
  ordered _ := stayOrdered_sublist sub

/-- R82, R88: a record of a new identity entering among some of the table's records keeps the table within its size. -/
theorem keeps_setEntries_insert {e : StayEntry} {es : List StayEntry} (sub : es.Sublist s.stay.entries)
    (fresh : s.Bounded → ∀ x ∈ es, x.record.id ≠ e.record.id) (room : es.length < max 384 s.stay.entries.length) :
    Keeps loud s (s.setEntries (insertEntry e es)) where
  bounded h := { h with records := by have := h.records; simp; omega }
  ordered b := stayOrdered_insert rfl sub (fresh b)

theorem keeps_raiseLoss (r : StayRecord) : Keeps loud s (s.raiseLoss r) := by
  unfold State.raiseLoss
  split
  · exact keeps_raise s _ _
  · exact .refl s

theorem keeps_enterRecord {r : StayRecord} (fresh : s.Bounded → s.stay.find r.id = none) :
    Keeps loud s (s.enterRecord r) := by
  have new (b : s.Bounded) := ne_of_find_none (fresh b)
  unfold State.enterRecord
  dsimp only
  split
  · next room =>
    have room : s.stay.entries.length < 384 := room
    exact keeps_setEntries_insert s (.refl _) new (by omega)
  split
  · exact .refl s
  next c hc =>
  have mem := mem_of_removalCandidate hc
  have sub := List.erase_sublist (a := c) (l := s.stay.entries)
  have shorter := List.length_erase_of_mem mem
  have pos := List.length_pos_of_mem mem
  split
  · refine .trans (keeps_setEntries_insert s sub (fun b x hx => new b x (sub.subset hx)) (by omega)) (keeps_raiseLoss _ _)
  · exact keeps_raiseLoss s _

/-- R89: a version of a record held takes the place of the one held. -/
theorem keeps_replaceRecord {r : StayRecord} {e : StayEntry} (held : s.stay.find r.id = some e) :
    Keeps loud s (s.replaceRecord r) := by
  obtain ⟨mem, id⟩ := mem_of_find held
  refine keeps_setEntries_insert s List.filter_sublist (fun _ x hx => by simpa using (List.mem_filter.1 hx).2) ?_
  have := List.length_filter_lt_length_iff_exists (p := fun e : StayEntry => !decide (e.record.id = r.id)).2
    ⟨e, mem, by simp [id]⟩
  omega

theorem keeps_marks {f : StayEntry → StayEntry} (hf : ∀ x, (f x).record = x.record) :
    Keeps loud s (s.setEntries (s.stay.entries.map f)) := keeps_of_onlyReports (onlyReports_marks s f hf)

theorem keeps_setMark (id : Identity) (mark : Bool) : Keeps loud s (s.setMark id mark) :=
  keeps_marks s fun x => by split <;> rfl

theorem keeps_announced (rs : List StayRecord) : Keeps loud s (s.announced rs) :=
  keeps_marks s fun x => by split <;> rfl

theorem keeps_takeTicket (start : Nat) : Keeps loud s (s.takeTicket start).1 := {}

theorem keeps_announce (r : StayRecord) : Keeps loud s (s.announce r) := by
  have handed := keeps_handOwn (loud := loud) s (.stay [r] false)
  unfold State.announce
  split
  · next e => rw [e] at handed; exact handed.trans (keeps_setMark _ _ _)
  · next e => rw [e] at handed; exact handed.trans (keeps_setMark _ _ _)

theorem keeps_reannounce : Keeps loud s s.reannounce := by
  cases waits : s.chan.queue.any fun e => e.isOwnBulkStay && !e.sending
  · rw [reannounce_of_none_waiting waits]
    have moved : Keeps loud s s.moveCursor := by
      unfold State.moveCursor
      split
      · exact {}
      · exact .refl s
    split
    · exact moved
    · refine moved.trans ?_
      have handed := keeps_handOwn (loud := loud) s.moveCursor (.stay s.announcement true)
      unfold State.handBulk
      split
      · next e => rw [e] at handed; exact handed.trans (keeps_announced _ _)
      · next e => rw [e] at handed; exact handed
  · rw [State.reannounce, if_pos waits]
    exact .refl s

theorem keeps_mergeRecord (r : StayRecord) : Keeps loud s (s.mergeRecord r) := by
  unfold State.mergeRecord
  split
  · exact .refl s
  split
  · next fresh => exact keeps_enterRecord s fun _ => fresh
  next held =>
  split
  · exact keeps_replaceRecord s held
  split
  · exact .refl s
  refine .trans ?_ (keeps_raise _ _ _)
  split
  · exact keeps_replaceRecord s held
  · exact .refl s

theorem keeps_mergeRecords (rs : List StayRecord) : Keeps loud s (s.mergeRecords rs) := by
  induction rs generalizing s with
  | nil => exact .refl s
  | cons r rs ih => exact (keeps_mergeRecord s r).trans (ih _)

theorem keeps_retireDue : Keeps loud s s.retireDue := keeps_setEntries_sublist s List.filter_sublist

end Stay

/-! ### The tariff store and the block list -/

theorem keeps_activate (s : State) (loud : Bool) (t : TariffTable) : Keeps loud s (s.activate loud t) := by
  unfold State.activate
  dsimp only
  refine .trans ?_ ((keeps_clearIf _ loud _).trans (keeps_reconsiderTariffIf _ loud))
  refine .trans ?_ (keeps_give _ _)
  exact {}

theorem keeps_activateDue (s : State) (loud : Bool) : Keeps loud s (s.activateDue loud) := by
  unfold State.activateDue
  split
  · exact .refl s
  split
  · exact keeps_activate s loud _
  · exact .refl s

theorem keeps_setStaging_nil {loud : Bool} (s : State) : Keeps loud s (s.setStaging []) where
  staging _ := stagingWf_nil

theorem keeps_reqTariffLoad {loud : Bool} (s : State) (o : Nat) (chunk : List Byte) :
    Keeps loud s (reqTariffLoad o chunk s).1 := by
  by_cases ok : chunkOk o chunk = true
  · rw [reqTariffLoad_of_ok ok]
    obtain ⟨-, -, inside⟩ := (chunkOk_iff o chunk).1 ok
    exact { staging := stagingWf_writeStaging chunk s.staging o inside }
  · rw [reqTariffLoad_of_not_ok ok]
    exact .refl s

theorem keeps_reqTariffCommit (s : State) : Keeps true s (reqTariffCommit s).1 := by
  unfold reqTariffCommit
  split
  · exact .refl s
  · exact keeps_setStaging_nil s
  split
  · exact keeps_setStaging_nil s
  dsimp only
  have pending (t : TariffTable) : Keeps true s ((s.setStaging []).setRet { s.ret with awaiting := some t }) :=
    (keeps_setStaging_nil s).trans {}
  split
  · exact (pending _).trans (keeps_activate _ _ _)
  · exact pending _

theorem keeps_reqTariffDiscard {loud : Bool} (s : State) : Keeps loud s (reqTariffDiscard s).1 :=
  (keeps_setStaging_nil s).trans {}

theorem keeps_reqBlockListLoad {loud : Bool} (s : State) (rs : List BlockRange) :
    Keeps loud s (reqBlockListLoad rs s).1 := by
  unfold reqBlockListLoad
  split
  · exact .refl s
  split
  · exact .refl s
  · exact { bounded := fun h => { h with ranges := by simp; omega } }

/-! ### Claims (R109 to R121) -/

/-- The own claims in flight of a list. -/
abbrev flights (cs : List Claim) : Nat := cs.countP Claim.inFlight

theorem oneFlight_iff (s : State) :
    s.OneFlight ↔ flights s.permits.claims ≤ 1 ∧ (s.permits.flight = none → flights s.permits.claims = 0) := by
  have none_iff : flights s.permits.claims = 0 ↔ ∀ c ∈ s.permits.claims, c.inFlight = false := by simp [List.countP_eq_zero]
  exact ⟨fun h => ⟨h.atMost, fun e => none_iff.2 (h.carried e)⟩, fun h => ⟨h.1, fun e => none_iff.1 (h.2 e)⟩⟩

/-- From p to q no claim comes into flight, what a claim in flight carries stays with it, and the list keeps its size. -/
structure ClaimsKept (p q : PermitBlock) : Prop where
  room : q.claims.length ≤ max 160 p.claims.length
  flights : flights q.claims ≤ flights p.claims
  carried : q.flight = none → p.flight = none ∨ Machine.flights q.claims = 0

theorem ClaimsKept.trans {p q r : PermitBlock} (h : ClaimsKept p q) (k : ClaimsKept q r) : ClaimsKept p r where
  room := by have := h.room; have := k.room; omega
  flights := k.flights.trans h.flights
  carried e := by
    rcases k.carried e with e | zero
    · rcases h.carried e with e | zero
      · exact .inl e
      · exact .inr (Nat.le_zero.1 (zero ▸ k.flights))
    · exact .inr zero

/-- A list of claims of which none is new in flight, under the flight that stands. -/
theorem claimsKept_claims {p : PermitBlock} {cs : List Claim} (room : cs.length ≤ max 160 p.claims.length)
    (fewer : flights cs ≤ flights p.claims) : ClaimsKept p { p with claims := cs } := ⟨room, fewer, .inl⟩

theorem claimsKept_sublist {p : PermitBlock} {cs : List Claim} (sub : cs.Sublist p.claims) :
    ClaimsKept p { p with claims := cs } := claimsKept_claims (by have := sub.length_le; omega) (sub.countP_le)

theorem keeps_setPermits {loud : Bool} {s : State} {v : PermitBlock} (h : ClaimsKept s.permits v) :
    Keeps loud s (s.setPermits v) where
  bounded b := { b with claims := by have := b.claims; have := h.room; simp only [setPermits_permits]; omega }
  flight f := by
    rw [oneFlight_iff] at *
    obtain ⟨one, carried⟩ := f
    refine ⟨h.flights.trans one, fun e => ?_⟩
    rcases h.carried e with e | zero
    · exact Nat.le_zero.1 (carried e ▸ h.flights)
    · exact zero

theorem keeps_setClaims {loud : Bool} {s : State} {cs : List Claim} (h : ClaimsKept s.permits { s.permits with claims := cs }) :
    Keeps loud s (s.setClaims cs) := keeps_setPermits h

/-- R109: a claim that is no own one waiting for its grant. -/
theorem notInFlight_of_state {c : Claim} (h : c.state = .provisional ∨ c.state = .firm) : c.inFlight = false := by
  rcases h with h | h <;> simp [Claim.inFlight, h]

theorem state_of_earliestProvisional {cs : List Claim} {p : Claim} (h : earliestProvisional cs = some p) :
    p ∈ cs ∧ p.state = .provisional := ⟨List.mem_of_find?_eq_some h, by simpa using List.find?_some h⟩

theorem length_enterClaim (cs : List Claim) (c : Claim) : (enterClaim cs c).length ≤ max 160 cs.length := by
  unfold enterClaim
  split
  · next room => have room : cs.length < 160 := room; simp; omega
  split
  · next p hp =>
    have mem := (state_of_earliestProvisional hp).1
    have := List.length_erase_of_mem mem
    have := List.length_pos_of_mem mem
    simp; omega
  · exact le_max_right _ _

theorem flights_enterClaim (cs : List Claim) (c : Claim) :
    flights (enterClaim cs c) ≤ flights cs + (if c.inFlight then 1 else 0) := by
  unfold enterClaim
  split
  · simp
  split
  · next p _ =>
    have fewer := (List.erase_sublist (a := p) (l := cs)).countP_le (p := Claim.inFlight)
    simpa using fewer
  · exact Nat.le_add_right _ _

theorem claimsKept_enterClaim {p : PermitBlock} {cs : List Claim} {c : Claim} (sub : cs.Sublist p.claims)
    (quiet : c.inFlight = false) : ClaimsKept p { p with claims := enterClaim cs c } := by
  refine claimsKept_claims ?_ ?_
  · have := length_enterClaim cs c; have := sub.length_le; omega
  · have := flights_enterClaim cs c
    rw [quiet] at this
    exact this.trans (sub.countP_le (p := Claim.inFlight))

/-- A change of the claims one by one that brings none into flight. -/
theorem claimsKept_map {p : PermitBlock} {f : Claim → Claim} {v : Option Flight}
    (hf : ∀ c, (f c).inFlight = true → c.inFlight = true)
    (carried : v = none → p.flight = none ∨ flights (p.claims.map f) = 0) :
    ClaimsKept p { claims := p.claims.map f, flight := v } where
  room := by simp
  flights := by
    rw [Machine.flights, List.countP_map]
    exact List.countP_mono_left fun c _ h => hf c h
  carried := carried

section Permits
variable {loud : Bool} (s : State)

theorem keeps_consult (serial : Nat) (cls : PermitClass) (use : CheckUse) : Keeps loud s (s.consult serial cls use).1 := by
  unfold State.consult
  split
  · exact .refl s
  · exact (keeps_raise s _ _).trans (keeps_give _ _)

theorem keeps_checkPermit (p : PermitRecord) (cls : PermitClass) (key : Nat) (use : CheckUse) :
    Keeps loud s (s.checkPermit p cls key use).1 := by
  have consulted := keeps_consult (loud := loud) s p.serial cls use
  unfold State.checkPermit
  split
  · next e => rw [e] at consulted; exact consulted
  · next e => rw [e] at consulted; exact consulted

theorem keeps_reqPermitCheck (p : PermitRecord) (key : Nat) : Keeps loud s (reqPermitCheck p key s).1 := by
  unfold reqPermitCheck
  split
  · exact .refl s
  next cls _ =>
  have checked := keeps_checkPermit (loud := loud) s p cls key .permitCheck
  split
  · next e => rw [e] at checked; exact checked
  · next e => rw [e] at checked; exact checked

/-- R118: the claims left when the claim in flight ends. -/
theorem claimsKept_ended (p : PermitBlock) :
    ClaimsKept p { claims := p.claims.filter fun x => !x.inFlight, flight := none } where
  room := by have := List.length_filter_le (fun x : Claim => !x.inFlight) p.claims; simp only; omega
  flights := List.filter_sublist.countP_le
  carried _ := .inr (by simp [List.countP_eq_zero])

theorem keeps_endFlight (c : Claim) (f : Flight) (o : ClaimOutcome) : Keeps loud s (s.endFlight c f o) := by
  unfold State.endFlight
  dsimp only
  refine .trans ?_ (keeps_give _ _)
  have ended := keeps_setPermits (loud := loud) (claimsKept_ended s.permits)
  split
  · exact ended.trans (keeps_handOwn _ _)
  · exact ended

theorem keeps_mergeFirm (x : Claim) : Keeps loud s (s.mergeFirm x) := by
  have firm : ({ x with state := .firm, ageing := none } : Claim).inFlight = false := notInFlight_of_state (.inr rfl)
  unfold State.mergeFirm
  dsimp only
  split
  · exact .refl s
  split
  · refine keeps_setClaims (claimsKept_map (fun c h => ?_) .inl)
    split at h
    · exact absurd h (by simp [Claim.inFlight])
    · exact h
  split
  · exact .refl s
  split
  · exact .refl s
  split
  · exact keeps_setClaims (claimsKept_enterClaim List.filter_sublist firm)
  split
  · split
    · exact (keeps_endFlight s _ _ _).trans (keeps_setClaims (claimsKept_enterClaim (.refl _) firm))
    · exact keeps_setClaims (claimsKept_enterClaim (.refl _) firm)
  · exact keeps_setClaims (claimsKept_enterClaim (.refl _) firm)

theorem keeps_setFlightState (st : ClaimState) (f : Flight) : Keeps loud s (s.setFlightState st f) := by
  refine keeps_setPermits (claimsKept_map (fun c h => ?_) nofun)
  split at h
  · assumption
  · exact h

theorem keeps_setFlight (f : Flight) : Keeps loud s (s.setPermits { s.permits with flight := some f }) :=
  keeps_setPermits ⟨le_max_right _ _, le_rfl, nofun⟩

theorem keeps_reopen (c : Claim) (f : Flight) : Keeps loud s (s.reopen c f) := by
  unfold State.reopen
  split
  · exact .refl s
  split
  · exact keeps_endFlight s _ _ _
  dsimp only
  have handed := keeps_handOwn (loud := loud) s (.claimOpen (openBody c f.allowance (f.attempts + 1)))
  split
  · next e => rw [e] at handed; exact handed.trans (keeps_endFlight _ _ _ _)
  · next e => rw [e] at handed; exact handed.trans (keeps_setFlightState _ _ _)
  · next e => rw [e] at handed; exact handed.trans (keeps_setFlightState _ _ _)

theorem keeps_openSent (id : ClaimId) : Keeps loud s (s.openSent id) := by
  unfold State.openSent
  split
  · split
    · exact keeps_setFlight s _
    · exact .refl s
  · exact .refl s

end Permits

end Sys2Proof.Machine

/-! PROOF. The walk (chapter 4): what holds of its quantities from its beginning to its stop, and the price. -/

namespace Sys2Proof.Machine

/-! ### The price (R66, R67) -/

/-- R67: a greater gross never costs less. -/
theorem priceOf_mono (t : TariffTable) {d g g' : Nat} (hd : d ≤ 100) (h : g ≤ g') : priceOf t d g ≤ priceOf t d g' := by
  obtain ⟨x, rfl⟩ := Nat.exists_eq_add_of_le h
  have discount : (g + x) * d / 100 ≤ g * d / 100 + x := by
    have : x * d ≤ x * 100 := Nat.mul_le_mul_left x hd
    rw [Nat.add_mul]
    omega
  unfold priceOf
  omega

theorem minimum_le_priceOf (t : TariffTable) (d g : Nat) : t.minimum ≤ priceOf t d g := le_max_right _ _

/-- Settles O17. -/
theorem priceFromGross : Obligations.PriceFromGross := by
  refine ⟨fun x => ?_, by decide, by decide, fun t d g => ⟨rfl, fun least => max_eq_left least⟩, fun t d g g' hd h =>
    ⟨minimum_le_priceOf t d g, ?_, priceOf_mono t hd h⟩⟩
  · unfold roundUp
    omega
  · unfold priceOf
    omega

/-! ### The quantities of a walk (R57 to R65) -/

/-- What holds of a walk's quantities at every minute: the charged minutes are those the walk set out with and those bought,
the walk stays within its 1440 minutes, and what is bought stays within the max stay, the duration or the money. -/
structure WalkSound (w : Walk) (r : WalkRegs) : Prop where
  horizon : r.m ≤ w.s0 + 1440
  charged : w.s0 + r.k ≤ r.m
  minutes : r.n = w.regs.n + r.k
  bought : r.last.isSome = true → 1 ≤ r.k
  limit : 1 ≤ r.k → 0 < r.X → r.n ≤ r.X
  ofRecord : ∀ h, w.continued = some h → r.X = h.maxStay
  fresh : w.continued = none → w.regs.n = 0
  duration : ∀ d, w.asked = .duration d → r.last.isSome = true → r.n ≤ d
  amount : ∀ a, w.asked = .amount a → r.last.isSome = true → priceOf w.table w.discount (grossOf w (r.T + r.a)) ≤ a

/-- R65: what holds before a minute that no stop test ends. -/
structure Goes (w : Walk) (b : TariffBand) (r : WalkRegs) : Prop where
  duration : ∀ d, w.asked = .duration d → r.n < d
  limit : 0 < r.X → r.n < r.X
  horizon : r.m < w.s0 + 1440
  amount : ∀ a, w.asked = .amount a → b.kind = .charged → priceWith w b r ≤ a

theorem ite_some_eq_none {α : Type} {p : Prop} [Decidable p] {a : α} {x : Option α} :
    (if p then some a else x) = none ↔ ¬ p ∧ x = none := by
  split <;> simp [*]

theorem goes_of_stopAt_none {w : Walk} {b : TariffBand} {isLast : Bool} {r : WalkRegs} (h : stopAt w b isLast r = none) :
    Goes w b r := by
  simp only [stopAt, ite_some_eq_none] at h
  obtain ⟨notDone, notMax, -, -, inside, affordable⟩ := h
  refine ⟨fun d hd => ?_, by omega, by omega, fun a ha charged => ?_⟩
  · simpa [hd] using notDone
  · simpa [ha, charged, ite_some_eq_none] using affordable

/-- R62: a midnight moves the day's accrual into the total, and no other quantity but the minute and the day's. -/
theorem walkSound_nextMinute {w : Walk} {r : WalkRegs} (horizon : r.m + 1 ≤ w.s0 + 1440) (charged : w.s0 + r.k ≤ r.m + 1)
    (h : WalkSound w { r with m := w.s0 + r.k }) : WalkSound w (nextMinute r) := by
  unfold nextMinute
  split
  · exact { h with horizon := horizon, charged := charged }
  · exact { h with horizon := horizon, charged := charged }

/-- R60, R61: a minute taken keeps the quantities sound. -/
theorem walkSound_takeMinute {w : Walk} {b : TariffBand} {r : WalkRegs} (goes : Goes w b r) (h : WalkSound w r) :
    WalkSound w (takeMinute w b r) := by
  have horizon := goes.horizon
  have charged := h.charged
  have minutes := h.minutes
  have limit := goes.limit
  unfold takeMinute
  split
  · next kind =>
    refine walkSound_nextMinute (by simp only [takeCharged]; omega) (by simp only [takeCharged]; omega) ?_
    constructor
    case horizon => simp only [takeCharged]; omega
    case charged => exact le_rfl
    case minutes => simp only [takeCharged]; omega
    case bought => exact fun _ => Nat.le_add_left 1 r.k
    case limit =>
      simp only [takeCharged]
      split
      · next first =>
        have zero := h.fresh (by simpa using first.1)
        intro _ _
        omega
      · intro _ _; omega
    case ofRecord =>
      intro x hx
      simp only [takeCharged, hx, Option.isNone_some, Bool.false_eq_true, false_and, if_false]
      exact h.ofRecord x hx
    case fresh => exact h.fresh
    case duration =>
      intro d hd _
      exact goes.duration d hd
    case amount =>
      intro a ha _
      exact goes.amount a ha kind
  · exact walkSound_nextMinute (by omega) (by omega) { h with horizon := by simp only; omega, charged := le_rfl }

/-- R57 to R65: the quantities at the stop are sound. -/
theorem walkSound_walkFrom {w : Walk} : ∀ (fuel : Nat) {r : WalkRegs}, WalkSound w r → WalkSound w (walkFrom w fuel r).1
  | 0, _, h => h
  | fuel + 1, r, h => by
    unfold walkFrom
    dsimp only
    split
    · exact h
    · next goes => exact walkSound_walkFrom fuel (walkSound_takeMinute (goes_of_stopAt_none goes) h)

/-- R58, R72: a walk's quantities are sound at its beginning. -/
theorem walkSound_beginWalk (t : TariffTable) (start : Nat) (asked : Asked) (d : Nat) (h : Option StayRecord)
    (sale : Option SaleTerms) : WalkSound (beginWalk t start asked d h sale) (beginWalk t start asked d h sale).regs := by
  cases h <;> exact {
    horizon := Nat.le_add_right _ _
    charged := le_rfl
    minutes := rfl
    bought := nofun
    limit := fun h => absurd h (by simp [beginWalk, beginRegs])
    ofRecord := fun _ e => by cases e <;> rfl
    fresh := fun e => by cases e <;> rfl
    duration := nofun
    amount := nofun }

/-- R64, R69, R70, R75: a walk that gives a result stopped at sound quantities with a minute bought. -/
theorem exists_stop_of_result {w : Walk} {x : WalkResult} (begun : WalkSound w w.regs) (h : walkOutcome w = .result x) :
    ∃ r clamp last, WalkSound w r ∧ r.last = some last ∧ x = resultOf w r clamp last := by
  have sound := walkSound_walkFrom 1441 begun
  unfold walkOutcome at h
  split at h
  · cases h
  dsimp only at h
  split at h
  · split at h <;> cases h
  next last hlast =>
  cases h
  exact ⟨_, _, last, sound, hlast, rfl⟩

/-- R69: a walk that gives a result buys 1 to 1440 minutes, ending on a whole minute. -/
theorem result_bought {w : Walk} {x : WalkResult} (begun : WalkSound w w.regs) (h : walkOutcome w = .result x) :
    x.expiry % 60 = 0 ∧ 1 ≤ x.bought ∧ x.bought ≤ 1440 := by
  obtain ⟨r, clamp, last, sound, hlast, rfl⟩ := exists_stop_of_result begun h
  have horizon := sound.horizon
  have charged := sound.charged
  exact ⟨Nat.mul_mod_left _ _, sound.bought (by simp [hlast]), by simp only [resultOf]; omega⟩

/-- R68, R69: an AMOUNT walk's price stays within the amount, and the excess is the rest. -/
theorem result_price_le {w : Walk} {x : WalkResult} {a : Nat} (begun : WalkSound w w.regs) (asked : w.asked = .amount a)
    (h : walkOutcome w = .result x) : x.price ≤ a ∧ w.table.minimum ≤ x.price ∧ x.excess = a - x.price := by
  obtain ⟨r, clamp, last, sound, hlast, rfl⟩ := exists_stop_of_result begun h
  exact ⟨sound.amount a asked (by simp [hlast]), minimum_le_priceOf _ _ _, by simp [resultOf, asked]⟩

/-- Settles O18. -/
theorem amountWalkWithinMoney : Obligations.AmountWalkWithinMoney := by
  intro table start a d h sale r result
  have begun := walkSound_beginWalk table start (.amount a) d h sale
  obtain ⟨within, least, excess⟩ := result_price_le begun rfl result
  exact ⟨within, least, excess, result_bought begun result⟩

/-- Settles O19. The two clauses share the soundness of the stop and differ in the minutes the walk set out with. -/
theorem durationWalkWithinAsked : Obligations.DurationWalkWithinAsked := by
  refine ⟨fun table start n d sale x result => ?_, fun table start n d h sale x result => ?_⟩
  all_goals
    obtain ⟨r, clamp, last, sound, hlast, rfl⟩ := exists_stop_of_result (walkSound_beginWalk ..) result
    have bought := sound.bought (by simp [hlast])
    have asked := sound.duration n rfl (by simp [hlast])
    have minutes := sound.minutes
  · have fromZero : r.n = r.k := by simpa [beginWalk, beginRegs] using minutes
    refine ⟨fromZero.symm, bought, fromZero.ge.trans asked, fun limit y hy positive => ?_⟩
    cases hy
    exact fromZero.ge.trans (sound.limit bought positive)
  · refine ⟨minutes, bought, asked, fun positive => ?_, rfl, rfl⟩
    have limit := sound.ofRecord h rfl
    exact limit ▸ sound.limit bought (limit ▸ positive)

end Sys2Proof.Machine

/-! PROOF. The invariants kept by ticket numbers, sales, claims in flight and the clock. -/

namespace Sys2Proof.Machine

/-! ### Ticket numbers (R81) -/

/-- The place of a ticket number in the cycle of numbers from 1 on; a number that no counter holds stands before the first. -/
def ticketPlace (n : Nat) : Nat := if 1 ≤ n ∧ n ≤ 16777215 then n - 1 else 16777214

theorem ticketPlace_nextTicket (n : Nat) : ticketPlace (nextTicket n) = (ticketPlace n + 1) % 16777215 := by
  unfold ticketPlace nextTicket
  split_ifs <;> omega

theorem ticketPlace_iterate (n i : Nat) : ticketPlace (nextTicket^[i] n) = (ticketPlace n + i) % 16777215 := by
  induction i with
  | zero => simp only [Function.iterate_zero, id]; unfold ticketPlace; split_ifs <;> omega
  | succ i ih => rw [Function.iterate_succ_apply', ticketPlace_nextTicket, ih]; omega

/-- R81: if the number found is taken, so are all the numbers tried. -/
theorem taken_of_freeTicket_taken {t : StayTable} {own start : Nat} : ∀ {fuel n : Nat},
    (t.find { origin := own, number := freeTicket t own start fuel n, start }).isSome = true →
      ∀ i ≤ fuel, (t.find { origin := own, number := nextTicket^[i] n, start }).isSome = true
  | 0, n, h, i, hi => by obtain rfl := Nat.le_zero.1 hi; exact h
  | fuel + 1, n, h, i, hi => by
    unfold freeTicket at h
    split at h
    · next taken =>
      cases i with
      | zero => exact taken
      | succ i => exact taken_of_freeTicket_taken h i (by omega)
    · next free => exact absurd h free

/-- R81: the table cannot take all the numbers tried, so the number found forms a free identity. -/
theorem find_freeTicket {t : StayTable} (room : t.entries.length ≤ 384) (own start n : Nat) :
    t.find { origin := own, number := freeTicket t own start (t.entries.length + 1) n, start } = none := by
  by_contra taken
  have all := taken_of_freeTicket_taken (Option.isSome_iff_ne_none.2 taken)
  let tried : List Identity :=
    (List.range (t.entries.length + 1)).map fun i => { origin := own, number := nextTicket^[i] n, start }
  have distinct : tried.Nodup := by
    refine List.Nodup.map_on (fun i hi j hj same => ?_) List.nodup_range
    have place := congrArg (fun x : Identity => ticketPlace x.number) same
    simp only [ticketPlace_iterate, List.mem_range] at place hi hj
    omega
  have held : tried ⊆ t.entries.map fun e => e.record.id := by
    intro id hid
    obtain ⟨i, hi, rfl⟩ := List.mem_map.1 hid
    obtain ⟨e, he⟩ := Option.isSome_iff_exists.1 (all i (List.mem_range.1 hi).le)
    obtain ⟨mem, same⟩ := mem_of_find he
    exact List.mem_map.2 ⟨e, mem, same⟩
  have := (distinct.subperm held).length_le
  simp [tried] at this

section Flight
variable {loud : Bool} (s : State)

theorem keeps_commitVisitorDay (c : Claim) : Keeps loud s (s.commitVisitorDay c).1 := by
  unfold State.commitVisitorDay
  refine .trans (keeps_takeTicket s s.now) (.trans (keeps_enterRecord _ fun b => ?_) (keeps_announce _ _))
  exact find_freeTicket b.records _ _ _

theorem keeps_grant (c : Claim) (f : Flight) : Keeps loud s (s.grant c f) := by
  unfold State.grant
  dsimp only
  refine .trans ?_ (keeps_give _ _)
  refine .trans (.trans (keeps_setPermits (claimsKept_map (fun x h => ?_) fun _ => .inr ?_)) (keeps_handOwn _ _))
    (keeps_commitVisitorDay _ c)
  · split at h
    · assumption
    · exact h
  · simp only [flights, List.countP_map, List.countP_eq_zero, Function.comp]
    intro x _ h
    split at h
    · exact absurd h (by simp [Claim.inFlight])
    · contradiction

theorem keeps_windowOver : Keeps loud s s.windowOver := by
  unfold State.windowOver
  split
  · exact .refl s
  split
  · exact .refl s
  split
  · exact keeps_endFlight s _ _ _
  · exact keeps_grant s _ _

theorem keeps_endWait : Keeps loud s s.endWait := by
  unfold State.endWait
  split
  · exact .refl s
  split
  · exact .refl s
  dsimp only
  split
  · exact (keeps_setFlightState s _ _).trans (keeps_endFlight _ _ _ _)
  · exact (keeps_setFlightState s _ _).trans (keeps_reopen _ _ _)

theorem keeps_concurrent (x : ClaimRef) : Keeps loud s (s.concurrent x) := by
  unfold State.concurrent
  split
  · exact .refl s
  split
  · exact .refl s
  split
  · split
    · exact keeps_setFlight s _
    · exact keeps_setFlight s _
  · exact keeps_setFlightState s _ _

theorem keeps_waitedFor (id : ClaimId) : Keeps loud s (s.waitedFor id) := by
  unfold State.waitedFor
  split
  · split
    · exact keeps_endWait s
    · exact .refl s
  · exact .refl s

theorem keeps_waitOver : Keeps loud s s.waitOver := by
  unfold State.waitOver
  split
  · split
    · exact keeps_endWait s
    · exact .refl s
  · exact .refl s

theorem keeps_ageOut (id : ClaimId) : Keeps loud s (s.ageOut id) :=
  keeps_setClaims (claimsKept_sublist List.filter_sublist)

theorem keeps_dropOldClaims : Keeps loud s s.dropOldClaims := by
  unfold State.dropOldClaims
  dsimp only
  refine .trans ?_ (keeps_setClaims (claimsKept_sublist List.filter_sublist))
  split
  · split
    · exact keeps_endFlight s _ _ _
    · exact .refl s
  · exact .refl s

/-! ### A claim opened (R113) -/

/-- R109: with no claim in flight together with what it carries, none is in flight at all. -/
theorem flights_of_current_none {s : State} (h : s.OneFlight) (none : s.permits.current = none) :
    flights s.permits.claims = 0 := by
  cases found : s.permits.claims.find? Claim.inFlight with
  | none => exact List.countP_eq_zero.2 fun c hc => by simpa using List.find?_eq_none.1 found c hc
  | some c =>
    cases flight : s.permits.flight with
    | none => exact ((oneFlight_iff s).1 h).2 flight
    | some f => simp [PermitBlock.current, found, flight] at none

theorem keeps_openClaim (none : s.permits.current = none) (serial key allowance : Nat) (id : ClaimId) (sent : Bool) :
    Keeps loud s (s.openClaim serial key allowance id sent).1 where
  bounded b := by
    have := length_enterClaim s.permits.claims
      { serial, day := s.today, key, id, openTime := s.now, state := .pending, ageing := Option.none }
    have := b.claims
    exact { b with claims := by simp only [State.openClaim, setPermits_permits]; omega }
  flight h := by
    have zero := flights_of_current_none h none
    refine (oneFlight_iff _).2 ⟨(flights_enterClaim _ _).trans ?_, nofun⟩
    rw [zero]
    split <;> decide

theorem current_of_claimRefusal_none {p : PermitBlock} {serial today key allowance : Nat}
    (h : claimRefusal p serial today key allowance = none) : p.current = none := by
  unfold claimRefusal at h
  dsimp only at h
  split at h
  · cases h
  · assumption

theorem sameBut_consult (serial : Nat) (cls : PermitClass) (use : CheckUse) :
    SameButReports s (s.consult serial cls use).1 := by
  unfold State.consult
  split
  · exact .refl s
  · exact (sameBut_raise s _ _).trans (sameBut_give _ _)

theorem checkPermit_fst (p : PermitRecord) (cls : PermitClass) (key : Nat) (use : CheckUse) :
    (s.checkPermit p cls key use).1 = (s.consult p.serial cls use).1 := by
  unfold State.checkPermit
  split <;> (next e => rw [e])

theorem sameBut_checkPermit (p : PermitRecord) (cls : PermitClass) (key : Nat) (use : CheckUse) :
    SameButReports s (s.checkPermit p cls key use).1 := by
  rw [checkPermit_fst]
  exact sameBut_consult s _ _ _

theorem keeps_reqClaimVisitorDay (p : PermitRecord) (key : Nat) : Keeps loud s (reqClaimVisitorDay p key s).1 := by
  unfold reqClaimVisitorDay
  split
  · exact .refl s
  next cls _ =>
  split
  · exact .refl s
  split
  · exact .refl s
  have checked := keeps_checkPermit (loud := loud) s p cls key .claimVisitorDay
  split
  · next e => rw [e] at checked; exact checked
  · next e => rw [e] at checked; exact checked
  next u allowance e =>
  rw [e] at checked
  refine checked.trans ?_
  split
  · exact .refl u
  next passes =>
  have none := current_of_claimRefusal_none passes
  dsimp only
  have handed := keeps_handOwn (loud := loud) u (.claimOpen {
    idSeq := 0, serial := p.serial, day := u.today, key, openTime := u.now, allowance, attempt := 1 })
  have permits := (sameBut_handOwn u (.claimOpen {
    idSeq := 0, serial := p.serial, day := u.today, key, openTime := u.now, allowance, attempt := 1 })).permits
  split
  · exact .refl u
  · next e => rw [e] at handed permits; exact handed.trans (keeps_openClaim _ (by rw [permits, none]) _ _ _ _ _)
  · next e => rw [e] at handed permits; exact handed.trans (keeps_openClaim _ (by rw [permits, none]) _ _ _ _ _)

/-! ### Claims heard (R119, R120) -/

theorem keeps_insertProvisional {cs : List Claim} (sub : cs.Sublist s.permits.claims) (id : ClaimId) (b : ClaimOpenBody) :
    Keeps loud s (s.insertProvisional cs id b) :=
  keeps_setClaims (claimsKept_enterClaim sub (notInFlight_of_state (.inl rfl)))

theorem keeps_judgeOpen (id : ClaimId) (b : ClaimOpenBody) : Keeps loud s (s.judgeOpen id b) := by
  unfold State.judgeOpen
  dsimp only
  split
  · exact keeps_handOwn s _
  split
  · exact keeps_handOwn s _
  split
  · exact (keeps_handOwn s _).trans (keeps_concurrent _ _)
  split
  · split
    · exact keeps_handOwn s _
    · exact keeps_insertProvisional s List.erase_sublist _ _
  · exact keeps_insertProvisional s (.refl _) _ _

theorem keeps_onClaimOpen (id : ClaimId) (b : ClaimOpenBody) : Keeps loud s (s.onClaimOpen id b) := by
  unfold State.onClaimOpen
  split
  · exact .refl s
  split
  · exact .refl s
  · exact (keeps_setClaims (claimsKept_sublist List.filter_sublist)).trans (keeps_judgeOpen _ _ _)

theorem keeps_onClaimFirm (id : ClaimId) (b : ClaimFirmBody) : Keeps loud s (s.onClaimFirm id b) := by
  unfold State.onClaimFirm
  split
  · exact .refl s
  · exact (keeps_mergeFirm s _).trans (keeps_waitedFor _ _)

theorem keeps_onClaimRelease (id : ClaimId) (b : ClaimReleaseBody) : Keeps loud s (s.onClaimRelease id b) := by
  unfold State.onClaimRelease
  split
  · exact .refl s
  · exact (keeps_setClaims (claimsKept_sublist List.filter_sublist)).trans (keeps_waitedFor _ _)

theorem keeps_onObjectHeld (b : ObjectOneBody) : Keeps loud s (s.onObjectHeld b) := by
  unfold State.onObjectHeld
  dsimp only
  split
  · exact (keeps_endFlight s _ _ _).trans (keeps_mergeFirm _ _)
  · exact keeps_mergeFirm s _

theorem keeps_mergeFirms (xs : List Claim) : Keeps loud s (xs.foldl State.mergeFirm s) := by
  induction xs generalizing s with
  | nil => exact .refl s
  | cons x xs ih => exact (keeps_mergeFirm s x).trans (ih _)

theorem keeps_onObjectCount (b : ObjectCountBody) : Keeps loud s (s.onObjectCount b) := by
  unfold State.onObjectCount
  dsimp only
  have merged := keeps_mergeFirms (loud := loud) s (b.carried.map (claimOf b.serial b.day))
  split
  · exact merged
  refine merged.trans ?_
  split
  · exact .refl _
  split
  · exact keeps_endFlight _ _ _ _
  split
  · exact .refl _
  · exact keeps_reopen _ _ _

theorem keeps_onObjectConcurrent (b : ObjectOneBody) : Keeps loud s (s.onObjectConcurrent b) := by
  unfold State.onObjectConcurrent
  split
  · exact keeps_concurrent s _
  split
  · exact keeps_mergeFirm s _
  · exact .refl s

end Flight

/-! ### The clock (chapter 2) -/

section Time
variable (s : State)

theorem keeps_changeDay : Keeps true s s.changeDay := by
  unfold State.changeDay
  split
  · exact .refl s
  split
  · refine .trans ?_ (keeps_dropOldClaims _)
    exact {}
  · exact {}

theorem keeps_retireOn (forward : Bool) : Keeps true s (s.retireOn forward) := by
  unfold State.retireOn
  split
  · exact keeps_retireDue s
  · exact .refl s

theorem keeps_deliver (forward : Bool) : Keeps true s (s.deliver forward) :=
  (((keeps_activateDue s true).trans (keeps_retireOn _ _)).trans (keeps_expireRound _)).trans (keeps_changeDay _)

theorem keeps_setClock {loud : Bool} {c : Clock} (h : clockInRange s → c.time ≤ zoneTimeMax ∧ c.epoch < byteSpan) :
    Keeps loud s (s.setClock c) where
  clock := h

theorem keeps_backupCount {loud : Bool} (n : Nat) : Keeps loud s (s.backupCount n) :=
  keeps_setClock s fun h => ⟨min_le_right _ _, h.2⟩

theorem keeps_advanceBy (d : Nat) : Keeps true s (s.advanceBy d) :=
  (keeps_backupCount s d).trans (keeps_deliver _ _)

theorem keeps_clearDisputes {loud : Bool} : Keeps loud s s.clearDisputes where
  bounded h := { h with neighbours := by simpa [State.clearDisputes] using h.neighbours }

theorem keeps_timeStep (cause : StepCause) {time epoch : Nat} (inRange : time ≤ zoneTimeMax) (byte : epoch < byteSpan) :
    Keeps true s (s.timeStep cause time epoch) := by
  unfold State.timeStep
  dsimp only
  refine .trans ?_ (keeps_give _ _)
  refine .trans ?_ (keeps_deliver _ _)
  exact (((keeps_setClock s fun _ => ⟨inRange, byte⟩).trans (keeps_clear _ _)).trans (keeps_clearDisputes _)).trans
    (keeps_clear _ _)

theorem keeps_mergeEqual (sender time : Nat) : Keeps true s (s.mergeEqual sender time) := by
  unfold State.mergeEqual
  dsimp only
  have judged := (keeps_setNeighbour (loud := true) s sender
    { s.neighbour sender with disputed := decide (s.now + 120 < time) }).trans (keeps_reconsiderClocks _)
  split
  · exact judged
  · exact judged.trans (keeps_advanceBy _ _)

theorem keeps_mergeTime {h : RxHeader} (inRange : h.time ≤ zoneTimeMax) (byte : h.epoch < byteSpan) :
    Keeps true s (s.mergeTime h) := by
  unfold State.mergeTime
  split
  · exact .refl s
  split
  · exact keeps_timeStep s _ inRange byte
  split
  · exact keeps_timeStep s _ inRange byte
  split
  · exact keeps_mergeEqual s _ _
  · exact .refl s

theorem keeps_reqSetTime (z : Nat) : Keeps true s (reqSetTime z s).1 := by
  unfold reqSetTime
  split
  · exact .refl s
  · next inside =>
    exact (keeps_timeStep s _ (Nat.le_of_not_lt inside) (Nat.mod_lt _ (by decide))).trans (keeps_queueStatus _)

/-- R39: a fault entry whose refresh timer counts a second. -/
def FaultEntry.ticked (e : FaultEntry) : FaultEntry := { e with refresh := tick e.refresh }

theorem faultEntry_tickTimers (k : FaultKind) : s.tickTimers.faultEntry k = (s.faultEntry k).ticked := by
  change (s.faults.table.map FaultEntry.ticked).getD (faultCode k) FaultEntry.initial.ticked = _
  exact List.getD_map ..

/-- R39: a counted timer changes no fault's active flag. -/
theorem faultActive_tickTimers (k : FaultKind) : s.tickTimers.faultActive k = s.faultActive k := by
  rw [State.faultActive, faultEntry_tickTimers]
  rfl

theorem keeps_tickTimers : Keeps true s s.tickTimers where
  service _ := serviceDerived_of_derived rfl fun h => h.trans (derivedService_congr (faultActive_tickTimers s) rfl).symm
  bounded h := { h with
    neighbours := by simpa [State.tickTimers] using h.neighbours
    claims := by simpa [State.tickTimers] using h.claims
    table := by simpa [State.tickTimers] using h.table }
  flight h := by
    have same : flights s.tickTimers.permits.claims = flights s.permits.claims := by
      simp only [State.tickTimers, setFaults_permits, setCash_permits, setPermits_permits, flights, List.countP_map]
      rfl
    rw [oneFlight_iff, same]
    exact ⟨((oneFlight_iff s).1 h).1, fun e => ((oneFlight_iff s).1 h).2 (Option.map_eq_none_iff.1 e)⟩

theorem keeps_countSecond : Keeps true s s.countSecond := (keeps_tickTimers s).trans (keeps_advanceBy _ _)

end Time

end Sys2Proof.Machine

/-! PROOF. The invariants kept by sales and by their commits. -/

namespace Sys2Proof.Machine

/-! ### A cash tender counted (R128) -/

theorem zipWith_addLong : ∀ {xs ys : List Nat}, xs.sum + ys.sum < longSpan →
    List.zipWith addLong xs ys = List.zipWith (· + ·) xs ys
  | [], _, _ => by simp
  | _ :: _, [], _ => by simp
  | x :: xs, y :: ys, h => by
    simp only [List.sum_cons] at h
    have rest := zipWith_addLong (xs := xs) (ys := ys) (by omega)
    simp only [List.zipWith_cons_cons, rest, addLong]
    rw [if_pos (by omega)]

theorem sum_zipWith_add : ∀ {xs ys : List Nat}, xs.length = ys.length → (List.zipWith (· + ·) xs ys).sum = xs.sum + ys.sum
  | [], [], _ => rfl
  | x :: xs, y :: ys, h => by
    simp only [List.zipWith_cons_cons, List.sum_cons, sum_zipWith_add (Nat.succ.inj h)]
    omega

/-- R127: the total of two tenders counted together. -/
theorem tenderTotal_add : ∀ {ds xs ys : List Nat}, xs.length = ds.length → ys.length = ds.length →
    tenderTotal ds (List.zipWith (· + ·) xs ys) = tenderTotal ds xs + tenderTotal ds ys
  | [], _, _, _, _ => by simp [tenderTotal]
  | d :: ds, x :: xs, y :: ys, hx, hy => by
    have rest := tenderTotal_add (ds := ds) (Nat.succ.inj hx) (Nat.succ.inj hy)
    simp only [tenderTotal, List.zipWith_cons_cons, List.sum_cons] at rest ⊢
    rw [rest, Nat.mul_add]
    omega

/-- R124: the total of a tender whose values are at most 50,000. -/
theorem tenderTotal_le : ∀ {ds counts : List Nat}, (∀ d ∈ ds, d ≤ 50000) → tenderTotal ds counts ≤ 50000 * counts.sum
  | [], _, _ => by simp [tenderTotal]
  | _ :: _, [], _ => by simp [tenderTotal]
  | d :: ds, n :: counts, h => by
    have rest := tenderTotal_le (counts := counts) fun x hx => h x (List.mem_cons_of_mem d hx)
    have first : d * n ≤ 50000 * n := Nat.mul_le_mul_right n (h d List.mem_cons_self)
    simp only [tenderTotal, List.zipWith_cons_cons, List.sum_cons] at rest ⊢
    omega

/-- R127, R128: a tender's counts have the form of the set in force and room in the box, and its total is the price with the
excess. -/
structure CashFits (b : BoxCounters) (counts : List Nat) (price excess : Nat) : Prop where
  form : counts.length = b.denominations.length
  room : b.items + counts.sum ≤ 5000
  paid : price + excess = tenderTotal b.denominations counts

theorem addLong_of_lt {x y : Nat} (h : x + y < longSpan) : addLong x y = x + y := if_pos h

/-- R126, R128: a tender counted keeps the box in balance. -/
theorem boxBalanced_add {s : State} {counts : List Nat} {price excess : Nat} (h : s.BoxBalanced) (walk : s.walk = none)
    (fits : CashFits s.ret.box counts price excess) : (s.setBox (s.ret.box.add counts price excess)).BoxBalanced := by
  obtain ⟨form, room, paid⟩ := fits
  have items := h.items
  have held := tenderTotal_le (counts := s.ret.box.counts) h.inForce
  have tendered := tenderTotal_le (counts := counts) h.inForce
  have value := h.value
  have accounts := h.accounts
  have summed : List.zipWith addLong s.ret.box.counts counts = List.zipWith (· + ·) s.ret.box.counts counts :=
    zipWith_addLong (by simp only [longSpan]; omega)
  have lengths : s.ret.box.counts.length = counts.length := h.counted.trans form.symm
  have newItems : addLong s.ret.box.items counts.sum = s.ret.box.items + counts.sum :=
    addLong_of_lt (by simp only [longSpan]; omega)
  have newValue : addLong s.ret.box.value (tenderTotal s.ret.box.denominations counts) =
      s.ret.box.value + tenderTotal s.ret.box.denominations counts := addLong_of_lt (by simp only [longSpan]; omega)
  have newSales : addLong s.ret.box.sales price = s.ret.box.sales + price :=
    addLong_of_lt (by simp only [longSpan]; omega)
  have newExcess : addLong s.ret.box.excess excess = s.ret.box.excess + excess :=
    addLong_of_lt (by simp only [longSpan]; omega)
  constructor
  case counted => simp [BoxCounters.add, h.counted, form]
  case items =>
    simp only [setBox_ret, BoxCounters.add, summed, newItems, sum_zipWith_add lengths]
    omega
  case value =>
    simp only [setBox_ret, BoxCounters.add, summed, newValue, tenderTotal_add h.counted form]
    omega
  case accounts =>
    simp only [setBox_ret, BoxCounters.add, newValue, newSales, newExcess]
    omega
  case room =>
    simp only [setBox_ret, BoxCounters.add, newItems]
    omega
  case capacity => exact h.capacity
  case inForce => exact h.inForce
  case waiting => exact h.waiting
  case walk => exact fun w hw => absurd hw (by simp [walk])

/-- R128: a sale's tender counted in a state reached without a walk. -/
theorem keeps_countCash {loud : Bool} {s u : State} (before : Keeps loud s u) (t : Tender) {price excess : Nat}
    (walk : u.walk = none)
    (fits : s.BoxBalanced → ∀ counts, t = .cash counts → CashFits u.ret.box counts price excess) :
    Keeps loud s (u.countCash t price excess) := by
  cases t with
  | card => exact before
  | cash counts =>
    change Keeps loud s (u.setBox (u.ret.box.add counts price excess)).findBand
    refine .trans ?_ (keeps_findBand _)
    exact {
      clock := before.clock
      staging := before.staging
      service := before.service
      distance := before.distance
      bounded := fun b =>
        let h := before.bounded b
        ⟨h.queue, h.neighbours, h.records, h.ranges, h.claims, h.table, h.quiet, h.inbox⟩
      ordered := fun b o => ⟨(before.ordered b o).order, (before.ordered b o).identities⟩
      flight := fun f => ⟨(before.flight f).atMost, (before.flight f).carried⟩
      box := fun b => boxBalanced_add (before.box b) walk (fits b counts rfl) }

/-! ### The walk begun and ended (R57, R127) -/

theorem keeps_setWalk {loud : Bool} (s : State) (w : Walk) (h : s.BoxBalanced → WalkBegun s w) :
    Keeps loud s (s.setWalk (some w)) where
  box b :=
    ⟨b.counted, b.items, b.value, b.accounts, b.room, b.capacity, b.inForce, b.waiting, fun x hx => by
      cases hx
      exact ⟨(h b).begun, (h b).tender⟩⟩

theorem keeps_endingWalk {loud : Bool} (s : State) : Keeps loud s (s.setWalk none) where
  box b := ⟨b.counted, b.items, b.value, b.accounts, b.room, b.capacity, b.inForce, b.waiting,
    fun w hw => absurd hw (by simp)⟩

/-- R58: a walk begun is the walk that begins with its own table, start and terms. -/
theorem beginWalk_self (t : TariffTable) (start : Nat) (asked : Asked) (d : Nat) (h : Option StayRecord)
    (sale : Option SaleTerms) : beginWalk t start asked d h sale =
      beginWalk t (beginWalk t start asked d h sale).start asked d h sale := by cases h <;> rfl

theorem keeps_reqQuote {loud : Bool} (s : State) (q : QuoteRequest) : Keeps loud s (reqQuote q s).1 := by
  have begun (t : TariffTable) (start d : Nat) (h : Option StayRecord) :
      Keeps loud s (s.setWalk (some (beginWalk t start q.asked d h none))) :=
    keeps_setWalk s _ fun _ => ⟨beginWalk_self t start q.asked d h none, nofun⟩
  unfold reqQuote
  split
  · exact .refl s
  split
  · exact .refl s
  split
  · exact .refl s
  split
  · exact .refl s
  · split
    · exact .refl s
    · exact begun _ _ _ _
  · split
    · exact .refl s
    · exact begun _ _ _ _

theorem salePermit_fst (s : State) (r : SellRequest) (h : Option StayRecord) :
    (s.salePermit r h).1 = s ∨ ∃ p cls, r.permit = some p ∧ permitForm p = some cls ∧
      (s.salePermit r h).1 = (s.consult p.serial cls .sell).1 := by
  unfold State.salePermit
  split
  · exact .inl rfl
  next p hp =>
  split
  · exact .inl rfl
  next cls hcls =>
  refine .inr ⟨p, cls, hp, hcls, ?_⟩
  split <;> (next e => exact (congrArg Prod.fst e).symm.trans (checkPermit_fst s p cls _ _))

theorem sameBut_salePermit (s : State) (r : SellRequest) (h : Option StayRecord) :
    SameButReports s (s.salePermit r h).1 := by
  rcases salePermit_fst s r h with e | ⟨p, cls, -, -, e⟩ <;> rw [e]
  · exact .refl s
  · exact sameBut_consult s _ _ _

theorem keeps_salePermit {loud : Bool} (s : State) (r : SellRequest) (h : Option StayRecord) :
    Keeps loud s (s.salePermit r h).1 := by
  rcases salePermit_fst s r h with e | ⟨p, cls, -, -, e⟩ <;> rw [e]
  · exact .refl s
  · exact keeps_consult s _ _ _

/-- R84, R127: a station that does not refuse a cash tender has room for it. -/
theorem boxRoom_of_standing {s : State} {counts : List Nat} (h : s.standingRefusal (.cash counts) = none) :
    s.boxRoom counts = true := by
  unfold State.standingRefusal at h
  split at h
  · cases h
  · cases h
  split at h
  · cases h
  dsimp only at h
  split at h
  · assumption
  · cases h

theorem tenderOk_cash {ds counts : List Nat} {asked : Asked} (h : tenderOk ds asked (.cash counts) = true) :
    counts.length = ds.length ∧ ∀ a, asked = .amount a → tenderTotal ds counts = a := by
  simp only [tenderOk, Bool.and_eq_true, decide_eq_true_eq] at h
  obtain ⟨⟨⟨⟨length, -⟩, -⟩, -⟩, amount⟩ := h
  exact ⟨length, fun a ha => by simpa [ha] using amount⟩

/-- R83, R127: the walk of a SELL that passes its checks stands as a walk that begins, its tender in form. -/
theorem walkBegun_sell {s : State} {r : SellRequest} {t : TariffTable} {d : Nat} {h : Option StayRecord}
    {permit : Option PermitMark} {start : Nat} (form : sellForm s.ret.box.denominations r = true)
    (standing : s.standingRefusal r.tender = none) (b : s.BoxBalanced) :
    WalkBegun s (beginWalk t start r.asked d h
      (some { key := r.key, tender := r.tender, examined := s.ret.box.denominations, permit })) where
  begun := beginWalk_self ..
  tender terms counts sale cash := by
    cases sale
    dsimp only at cash ⊢
    simp only [sellForm, Bool.and_eq_true] at form
    rw [cash] at form standing
    obtain ⟨length, amount⟩ := tenderOk_cash form.2
    refine ⟨length, amount, ?_⟩
    have room := boxRoom_of_standing standing
    have within := b.room
    unfold State.boxRoom at room
    cases capacity : s.cash.capacity with
    | none => simp only [capacity, Option.getD_none, decide_eq_true_eq] at room; omega
    | some c =>
      have := b.capacity c capacity
      simp only [capacity, Option.getD_some, decide_eq_true_eq] at room
      omega

theorem walkBegun_congr {s t : State} {w : Walk} (box : t.ret.box = s.ret.box) (h : WalkBegun s w) : WalkBegun t w :=
  ⟨h.begun, by rw [box]; exact h.tender⟩

theorem keeps_reqSell {loud : Bool} (s : State) (r : SellRequest) : Keeps loud s (reqSell r s).1 := by
  unfold reqSell
  split
  · exact .refl s
  next form =>
  split
  · exact .refl s
  split
  · exact .refl s
  split
  · exact .refl s
  next standing =>
  split
  · exact .refl s
  next h _ =>
  have permitted := keeps_salePermit (loud := loud) s r h
  have same := sameBut_salePermit s r h
  split
  · next e => rw [e] at permitted; exact permitted
  next u d permit e =>
  rw [e] at permitted same
  have back : u.BoxBalanced → s.BoxBalanced :=
    boxBalanced_congr same.box.symm (by rw [same.cash]) (by rw [same.cash]) same.walk.symm
  exact permitted.trans (keeps_setWalk u _ fun b =>
    walkBegun_congr same.box (walkBegun_sell (by simpa using form) standing (back b)))

/-- R71, R128: a sale completed against its tender pays its price and its excess, in the set in force. -/
theorem cashFits_of_completed {s : State} {w : Walk} {terms : SaleTerms} {r x : WalkResult} {counts : List Nat}
    (begun : WalkBegun s w) (sale : w.sale = some terms) (result : walkOutcome w = .result r)
    (completed : completeSale terms r = some x) (unchanged : s.tenderChanged terms = false)
    (cash : terms.tender = .cash counts) : CashFits s.ret.box counts x.price x.excess := by
  obtain ⟨length, amount, room⟩ := begun.tender terms counts sale cash
  have inForce : s.ret.box.denominations = terms.examined := by
    simpa [State.tenderChanged, cash] using unchanged
  have sound : WalkSound w w.regs := by
    have := walkSound_beginWalk w.table w.start w.asked w.discount w.continued w.sale
    rwa [← begun.begun] at this
  have asked : r.asked = w.asked := by
    obtain ⟨_, _, _, -, -, rfl⟩ := exists_stop_of_result sound result
    rfl
  refine ⟨inForce ▸ length, room, ?_⟩
  rw [inForce]
  cases direction : w.asked with
  | amount a =>
    obtain ⟨within, -, excess⟩ := result_price_le sound direction result
    have same : x = r := by simpa [completeSale, asked, direction, eq_comm] using completed
    rw [same, excess, amount a direction]
    omega
  | duration d =>
    simp only [completeSale, asked, direction, cash] at completed
    split at completed
    · cases completed
    · cases completed
      dsimp only
      omega

section Commit
variable {loud : Bool} {s u : State} {w : Walk} {terms : SaleTerms} {r : WalkResult}

theorem keeps_finishSale (before : Keeps loud s u) (x : StayRecord) (walk : u.walk = none)
    (fits : s.BoxBalanced → ∀ counts, terms.tender = .cash counts → CashFits u.ret.box counts r.price r.excess) :
    Keeps loud s (u.finishSale terms r x).1 :=
  (keeps_countCash before terms.tender walk fits).trans (keeps_announce _ _)

theorem sameBut_raiseLoss (s : State) (r : StayRecord) : SameButReports s (s.raiseLoss r) := by
  unfold State.raiseLoss
  split
  · exact sameBut_raise s _ _
  · exact .refl s

/-- R88: entering a record touches the table of stays and reports alone. -/
theorem sameBut_enterRecord (s : State) (r : StayRecord) :
    ∃ es, SameButReports (s.setEntries es) (s.enterRecord r) := by
  unfold State.enterRecord
  dsimp only
  split
  · exact ⟨_, .refl _⟩
  split
  · exact ⟨s.stay.entries, .refl s⟩
  split
  · exact ⟨_, sameBut_raiseLoss _ _⟩
  · exact ⟨s.stay.entries, sameBut_raiseLoss s _⟩

/-- R88 to R92, R128: a sale committed at the end of its walk keeps the invariants. -/
theorem keeps_commitSale (before : Keeps loud s u) (walk : u.walk = none)
    (fits : u.tenderChanged terms = false → s.BoxBalanced → ∀ counts, terms.tender = .cash counts →
      CashFits u.ret.box counts r.price r.excess) :
    Keeps loud s (u.commitSale w terms r).1 := by
  unfold State.commitSale
  split
  · split
    · exact before
    next unchanged =>
    dsimp only
    obtain ⟨es, same⟩ := sameBut_enterRecord (u.takeTicket w.start).1 (newRecord terms r (u.takeTicket w.start).2)
    refine keeps_finishSale (before.trans (.trans (keeps_takeTicket u _) (keeps_enterRecord _ fun b => ?_))) _ ?_ ?_
    · exact find_freeTicket b.records _ _ _
    · exact same.walk.trans walk
    · rw [same.box]
      exact fits (by simpa using unchanged)
  next h _ =>
  · split
    · exact before
    next held found =>
    split
    · exact before
    next unchanged =>
    refine keeps_finishSale (before.trans ?_) _ walk (fits (by simpa using unchanged))
    unfold foundAgain at found
    split at found
    · cases found
    next e he =>
    split at found
    · cases found
    split at found
    · cases found
    cases found
    exact keeps_replaceRecord u (r := extendedRecord e.record terms r u.own) (e := e)
      (by rw [show (extendedRecord e.record terms r u.own).id = h.id from (mem_of_find he).2]; exact he)

/-- R57: the walk in progress concluded. -/
theorem keeps_concludeWalk (h : s.walk = some w) : Keeps loud s ((s.setWalk none).concludeWalk w).1 := by
  unfold State.concludeWalk
  have ended : Keeps loud s (s.setWalk none) := keeps_endingWalk s
  split
  · exact ended
  next result =>
  split
  · exact ended
  next sale =>
  split
  · exact ended
  next completed =>
  exact keeps_commitSale ended rfl fun unchanged b counts cash =>
    cashFits_of_completed (walkBegun_congr (s := s) rfl (b.walk w h)) sale result completed unchanged cash

end Commit

end Sys2Proof.Machine

/-! PROOF. The invariants kept by frames, starts, the machine link, and every step: O56 to O59. -/

namespace Sys2Proof.Machine

/-! ### The channel and arrival -/

section Channel
variable (s : State)

theorem keeps_beginSending (r : Running) (e : TxEntry) : Keeps true s (s.beginSending r e) where
  bounded h := { h with queue := by simpa [State.beginSending] using h.queue }

theorem keeps_slotBegins (slot : Nat) : Keeps true s (s.slotBegins slot) := by
  unfold State.slotBegins
  split
  · split
    · exact .refl s
    have begun : Keeps true s (s.setChan { s.chan with phase := .window (some slot) }) := {}
    dsimp only
    split
    · exact begun
    split
    · exact begun.trans (keeps_beginSending _ _ _)
    · exact begun
  · exact .refl s

theorem keeps_onCompleted (e : TxEntry) : Keeps true s (s.onCompleted e) := by
  unfold State.onCompleted
  split
  · exact .refl s
  split
  · exact keeps_announced s _
  · exact keeps_openSent s _
  · exact .refl s

theorem keeps_completeSending : Keeps true s s.completeSending := by
  unfold State.completeSending
  split
  · exact .refl s
  dsimp only
  have sent (spent : Bool) : Keeps true s (s.setChan { s.chan with
      phase := .gap, onAir := none, spent, queue := s.chan.queue.filter fun e => !e.sending }) :=
    { bounded := fun h => { h with queue := (List.length_filter_le _ _).trans h.queue } }
  split
  · exact (sent _).trans (keeps_onCompleted _ _)
  · exact sent _

theorem keeps_setPhase (p : ChannelPhase) : Keeps true s (s.setChan { s.chan with phase := p }) := {}

theorem keeps_senseCarrier : Keeps true s s.senseCarrier := by
  unfold State.senseCarrier
  split
  · exact keeps_setPhase s _
  · exact keeps_setPhase s _
  · exact .refl s

theorem keeps_endCarrier : Keeps true s s.endCarrier := by
  unfold State.endCarrier
  split
  · exact keeps_setPhase s _
  · exact keeps_setPhase s _
  · exact keeps_setPhase s _
  · exact .refl s

theorem keeps_endGap : Keeps true s s.endGap := by
  unfold State.endGap
  split
  · exact keeps_setPhase s _
  · exact .refl s

theorem keeps_idleWindow : Keeps true s s.idleWindow := by
  unfold State.idleWindow
  split
  · exact {}
  · exact .refl s

theorem keeps_hear (h : RxHeader) (period : Nat) : Keeps true s (s.hear h period) := by
  unfold State.hear
  dsimp only
  refine .trans ?_ (keeps_neighboursChanged _)
  split
  · exact keeps_setNeighbour s _ _
  · exact (keeps_setNeighbour s _ _).trans (keeps_setNeighbour _ _ _)

theorem keeps_directExpiry (n : Nat) : Keeps true s (s.directExpiry n) := by
  unfold State.directExpiry
  dsimp only
  split
  · exact .refl s
  · exact (keeps_setNeighbour s _ _).trans (keeps_neighboursChanged _)

theorem keeps_silenceExpiry (n : Nat) : Keeps true s (s.silenceExpiry n) := by
  unfold State.silenceExpiry
  split
  · exact .refl s
  · exact (keeps_setNeighbour s _ _).trans (keeps_neighboursChanged _)

/-- R13, R14: recording a sequence replaces the window of the origin's entry. -/
theorem recordSeq_eq_some {s t : State} {h : RxHeader} {isStatus : Bool} (e : s.recordSeq h isStatus = some t) :
    ∃ w, t = s.setNeighbour h.origin { s.neighbour h.origin with window := some w } := by
  unfold State.recordSeq at e
  dsimp only at e
  split at e
  · obtain ⟨w, -, rfl⟩ := Option.map_eq_some_iff.1 e
    exact ⟨w, rfl⟩
  · exact ⟨_, (Option.some.inj e).symm⟩

theorem keeps_setDuplicateTimer (t : Option Nat) : Keeps true s (s.setDuplicateTimer t) := {}

theorem keeps_duplicateStation (h : RxHeader) (period : Nat) : Keeps true s (s.duplicateStation h period) :=
  (keeps_raise s _ _).trans (keeps_setDuplicateTimer _ _)

theorem keeps_duplicateOver : Keeps true s s.duplicateOver := by
  unfold State.duplicateOver
  split
  · exact .refl s
  · exact (keeps_setDuplicateTimer s _).trans (keeps_clear _ _)

theorem keeps_handCopy (b : QueuedBody) (o q n : Nat) (r : Bool) (c : FrameClass) :
    Keeps true s (s.handCopy b o q n r c) := keeps_of_onlyReports (onlyReports_handCopy s b o q n r c)

theorem keeps_relayFrame (h : RxHeader) (n : Nat) (b : QueuedBody) : Keeps true s (s.relayFrame h n b) := by
  unfold State.relayFrame
  split
  · exact keeps_handCopy s _ _ _ _ _ _
  · exact .refl s

/-- R11: an accepted header's time and epoch lie in their ranges. -/
theorem inRange_of_headerOk {h : RxHeader} {f : FrameForm} {zone : Nat} (ok : headerOk h f zone = true) :
    h.time ≤ zoneTimeMax ∧ h.epoch < byteSpan := by
  simp only [headerOk, Bool.and_eq_true, decide_eq_true_eq] at ok
  obtain ⟨-, -, -, -, -, -, -, -, -, epoch, time, -⟩ := ok
  exact ⟨time, epoch⟩

variable {owner : Running → State → State}

theorem keeps_receive (h : RxHeader) (f : FrameForm) (isStatus : Bool) (kept : ∀ r t, Keeps true t (owner r t)) :
    Keeps true s (s.receive h f isStatus owner) := by
  unfold State.receive
  split
  · exact .refl s
  split
  · exact .refl s
  next ok =>
  obtain ⟨time, epoch⟩ := inRange_of_headerOk (by simpa using ok)
  split
  · exact keeps_duplicateStation s _ _
  unfold State.accept
  dsimp only
  have heard := keeps_hear s h
  split
  · exact heard _
  split
  · exact heard _
  next recorded =>
  obtain ⟨w, rfl⟩ := recordSeq_eq_some recorded
  exact (((heard _).trans (keeps_setNeighbour _ _ _)).trans (keeps_mergeTime _ time epoch)).trans (kept _ _)

theorem keeps_receiveRelayed (h : RxHeader) (n : Nat) (ok : Bool) (b : QueuedBody) {own : State → State}
    (kept : ∀ t, Keeps true t (own t)) : Keeps true s (s.receiveRelayed h n ok b own) :=
  keeps_receive s h _ _ fun _ t => (kept t).trans (keeps_relayFrame _ _ _ _)

theorem keeps_onStatus (origin : Nat) (b : StatusBody) : Keeps true s (s.onStatus origin b) := by
  unfold State.onStatus
  dsimp only
  have recorded := ((keeps_setNeighbour (loud := true) s origin
    { s.neighbour origin with reported := some (reportedOf b) }).trans (keeps_recomputeDistance _)).trans
      (keeps_reconsiderTariffIf _ true)
  split
  · exact recorded.trans (keeps_onRound _ _ _)
  · exact recorded

theorem keeps_onFault (h : RxHeader) (b : FaultBody) : Keeps true s (s.onFault h b) := by
  unfold State.onFault
  split
  · exact keeps_of_onlyReports (onlyReports_toInbox s _ _ _)
  unfold State.repeatFault
  split
  · exact keeps_handCopy s _ _ _ _ _ _
  · exact .refl s

/-! ### The timers of the link controller and of fault reports -/

theorem keeps_statusExpiry : Keeps true s s.statusExpiry := by
  unfold State.statusExpiry
  split
  · next r _ _ =>
    have restarted : Keeps true s (s.setChan { s.chan with statusTimer := some r.config.statusPeriod }) := {}
    have queued := ((restarted.trans (keeps_queueStatus _)).trans (keeps_reannounce _)).trans (keeps_reannounceEntry _)
    dsimp only
    split
    · exact queued.trans (keeps_offerDeferred _)
    · exact queued
  · exact .refl s

theorem keeps_setLiveness (timer : Option Nat) {n : Nat} (small : n ≤ 2) :
    Keeps true s (s.setFaults { s.faults with liveness := timer, quiet := n }) where
  bounded h := { h with quiet := small }

theorem keeps_startLiveness (period : Nat) : Keeps true s (s.startLiveness period) :=
  keeps_setLiveness s _ (Nat.zero_le 2)

theorem keeps_livenessExpiry : Keeps true s s.livenessExpiry := by
  unfold State.livenessExpiry
  split
  · dsimp only
    split
    · exact (keeps_setLiveness s _ (Nat.le_succ 1)).trans (keeps_give _ _)
    · exact (keeps_setLiveness s _ le_rfl).trans (keeps_raise _ _ _)
  · exact .refl s

theorem keeps_refreshExpiry (k : FaultKind) : Keeps true s (s.refreshExpiry k) := by
  unfold State.refreshExpiry
  dsimp only
  split
  · refine .trans ?_ (keeps_makeReport _ _ _)
    have active := faultActive_setFaultEntry (s := s) (k := k)
      (e := { s.faultEntry k with refresh := some 600 }) rfl
    have derived : s.Derived → (s.setFaultEntry k { s.faultEntry k with refresh := some 600 }).Derived :=
      fun h => h.trans (derivedService_congr active rfl).symm
    exact { keeps_setFaultEntry s k _ with service := fun _ => serviceDerived_of_derived rfl derived }
  · exact .refl s

end Channel

/-! ### Starts and main power -/

section Starts
variable (s : State)

/-- R170: the working state of every block stands at its initial values. -/
structure InitialBlocks (t : State) : Prop where
  chan : t.chan = ChannelBlock.initial
  staging : t.staging = []
  walk : t.walk = none
  stay : t.stay = StayTable.initial
  permits : t.permits = PermitBlock.initial
  cash : t.cash = CashBlock.initial
  faults : t.faults = FaultBlock.initial
  running : t.link.running = none

theorem initialBlocks_startValues (reason : StartReason) (ret : Retained) : InitialBlocks (s.startValues reason ret) :=
  ⟨rfl, rfl, rfl, rfl, rfl, rfl, rfl, rfl⟩

theorem bounded_of_initialBlocks {t : State} (h : InitialBlocks t) (ranges : t.ret.blockList.length = 16) :
    t.Bounded := by
  constructor
  case ranges => exact ranges
  all_goals simp [h.chan, h.stay, h.permits, h.faults, ChannelBlock.initial, StayTable.initial, PermitBlock.initial,
    FaultBlock.initial]

/-- A start's working state has the invariants that do not speak of the retained store; those that do are carried over. -/
theorem keeps_of_initialBlocks {t : State} (h : InitialBlocks t) (clock : clockInRange s → clockInRange t)
    (ranges : s.ret.blockList.length = 16 → t.ret.blockList.length = 16)
    (box : t.ret.box = s.ret.box ∨ t.ret.box = Retained.initial.box) : Keeps false s t where
  clock := clock
  staging _ := by
    rw [stagingInForm, h.staging]
    exact stagingWf_nil
  service := nofun
  distance _ := by simp [distanceLegal, State.isSink, h.running, h.chan, ChannelBlock.initial]
  bounded b := bounded_of_initialBlocks h (ranges b.ranges)
  ordered _ _ := by constructor <;> simp [h.stay, StayTable.initial]
  flight _ := by constructor <;> simp [h.permits, PermitBlock.initial]
  box b := by
    obtain same | same := box
    · constructor
      case walk => simp [h.walk]
      case capacity => simp [h.cash, CashBlock.initial]
      case waiting => simp [h.cash, CashBlock.initial]
      all_goals rw [same]
      exacts [b.counted, b.items, b.value, b.accounts, b.room, b.inForce]
    · constructor <;> simp [h.walk, h.cash, CashBlock.initial, same, Retained.initial, BoxCounters.zero, tenderTotal]

theorem keeps_startValues (reason : StartReason) : Keeps false s (s.startValues reason s.ret) :=
  keeps_of_initialBlocks s (initialBlocks_startValues s _ _) (fun x => x) (fun x => x) (.inl rfl)

theorem keeps_startValues_initial (reason : StartReason) : Keeps false s (s.startValues reason Retained.initial) :=
  keeps_of_initialBlocks s (initialBlocks_startValues s _ _) (fun _ => (by decide : 0 ≤ zoneTimeMax ∧ 0 < byteSpan))
    (fun _ => List.length_replicate)
    (.inr rfl)

theorem keeps_raiseIf_unless (p : Bool) (k : FaultKind) (d : Nat) :
    Keeps false s (if p then s else s.raiseIf false k d) := by
  split
  · exact .refl s
  · exact keeps_raiseIf s _ _ _

theorem keeps_raiseUnready : Keeps false s s.raiseUnready :=
  (keeps_raiseIf_unless s _ _ _).trans (keeps_raiseIf_unless _ _ _ _)

theorem keeps_raiseForced : Keeps false s s.raiseForced := by
  unfold State.raiseForced
  split
  · exact keeps_raiseIf s _ _ _
  · exact .refl s

theorem keeps_compareBox : Keeps false s s.compareBox := by
  unfold State.compareBox
  split
  · exact keeps_removeBox s _ _
  · exact keeps_insertBox s _
  · exact .refl s

theorem keeps_compareDoor : Keeps false s s.compareDoor := by
  unfold State.compareDoor
  split
  · exact keeps_openDoor s _
  · exact keeps_closeDoor s _
  · exact {}
  · exact .refl s

/-- R152: a start ends with the service state derived. -/
theorem deriveQuietly_derived : s.deriveQuietly.Derived :=
  (sameCores_setService s s.derivedService).derivedService.symm

theorem keeps_startEvents {u : State} (values : Keeps false s u) (lost : Bool) : Keeps true s (u.startEvents lost) := by
  have events : Keeps false u (u.startEvents lost) := by
    unfold State.startEvents
    dsimp only
    have quietly (v : State) : Keeps false v v.deriveQuietly := { service := nofun }
    refine .trans ?_ (quietly _)
    have compared := (((((keeps_raiseUnready u).trans (keeps_activateDue _ false)).trans (keeps_expireRound _)).trans
      (keeps_raiseForced _)).trans (keeps_compareBox _)).trans (keeps_compareDoor _)
    split
    · exact compared.trans (keeps_raiseIf _ _ _ _)
    · exact compared
  exact { values.trans events with service := fun _ _ _ => deriveQuietly_derived _ }

theorem keeps_warmStart (reason : StartReason) : Keeps true s (s.warmStart reason) :=
  keeps_startEvents s (keeps_startValues s reason) false

theorem keeps_coldStart (lost : Bool) : Keeps true s (s.coldStart lost) :=
  keeps_startEvents s (keeps_startValues_initial s .cold) lost

theorem keeps_powerUp (outage : Nat) (spoiled : Bool) : Keeps true s (s.powerUp outage spoiled) := by
  unfold State.powerUp
  split
  · exact .refl s
  split
  · exact (keeps_backupCount s _).trans (keeps_warmStart _ _)
  · exact keeps_coldStart s _
  · exact keeps_coldStart s _

/-- A change of the lines, the marker or the power leaves every invariant but the derived service state alone. -/
theorem keeps_setSupply (v : Supply) (service : serviceDerived s → serviceDerived (s.setSupply v)) :
    Keeps true s (s.setSupply v) where
  service _ := service

theorem keeps_powerLoss : Keeps true s s.powerLoss := by
  unfold State.powerLoss
  split
  · have blocks : InitialBlocks { s.startValues s.link.reason s.ret with supply := { s.supply with power := false } } :=
      ⟨rfl, rfl, rfl, rfl, rfl, rfl, rfl, rfl⟩
    exact { keeps_of_initialBlocks s blocks (fun x => x) (fun x => x) (.inl rfl) with service := fun _ _ => nofun }
  · exact .refl s

theorem keeps_assertReset : Keeps true s s.assertReset := by
  unfold State.assertReset
  split
  · exact .refl s
  dsimp only
  have held : Keeps true s (s.setSupply { s.supply with resetHeld := true }) := keeps_setSupply s _ fun h => h
  split
  · exact held.trans (keeps_warmStart _ _)
  · exact held

theorem keeps_releaseReset : Keeps true s s.releaseReset := keeps_setSupply s _ fun h => h

theorem keeps_doorLine (isOpen : Bool) : Keeps true s (s.doorLine isOpen) := by
  unfold State.doorLine
  split
  · exact .refl s
  dsimp only
  have line : Keeps true s (s.setSupply { s.supply with doorOpen := isOpen }) := keeps_setSupply s _ fun h => h
  split
  · exact line
  split
  · exact line.trans (keeps_openDoor _ _)
  · exact line.trans (keeps_closeDoor _ _)

theorem keeps_boxLine (absent : Bool) : Keeps true s (s.boxLine absent) := by
  unfold State.boxLine
  split
  · exact .refl s
  dsimp only
  have line : Keeps true s (s.setSupply { s.supply with boxAbsent := absent }) := keeps_setSupply s _ fun h => h
  split
  · exact line
  split
  · exact line.trans (keeps_removeBox _ _ _)
  · exact line.trans (keeps_insertBox _ _)

end Starts

/-! ### START (R167, R168) -/

section Start
variable (s : State)

/-- R25: the link controller begins at the distance of its sink role. -/
theorem keeps_startChannel (r : Running) : Keeps true s ((s.setLink (s.link.withConfiguration r)).startChannel r) := by
  unfold State.startChannel
  refine .trans ?_ (keeps_queueStatus _)
  refine { distance := fun _ => ?_ }
  simp only [distanceLegal, State.isSink]
  show if r.config.sink then (if r.config.sink then 0 else 7) = 0 else
    1 ≤ (if r.config.sink then 0 else 7) ∧ (if r.config.sink then 0 else 7) ≤ 7
  cases r.config.sink <;> decide

/-- R124, R125: what a START that passes gives the cash unit. -/
theorem checkStart_passes {q : StartRequest} {items : Nat} {c : Configuration} {marks : Bool × Bool × Bool × Bool}
    (h : checkStart q items = .passes c marks) :
    c.capacity = max (min q.capacity 5000) items ∧ ∀ d ∈ c.denominations, d ≤ 50000 := by
  unfold checkStart at h
  split at h
  · cases h
  split at h
  · cases h
  split at h
  · cases h
  split at h
  · cases h
  next ok =>
  split at h
  · cases h
  split at h
  · cases h
  cases h
  refine ⟨rfl, fun d hd => ?_⟩
  simp only [denominationsOk, Bool.not_eq_true', Bool.not_eq_false, Bool.and_eq_true, List.all_eq_true,
    decide_eq_true_eq] at ok
  exact (ok.2 d hd).2

theorem sum_eq_zero_of_counts {counts : List Nat} (h : counts.sum = 0) (ds : List Nat) : tenderTotal ds counts = 0 := by
  unfold tenderTotal
  rw [List.sum_eq_zero_iff] at *
  intro x hx
  obtain ⟨i, hi, rfl⟩ := List.mem_iff_getElem.1 hx
  rw [List.getElem_zipWith, h _ (List.getElem_mem _), Nat.mul_zero]

theorem keeps_takeDenominations {ds : List Nat} (small : ∀ d ∈ ds, d ≤ 50000) : Keeps true s (s.takeDenominations ds) := by
  unfold State.takeDenominations
  split
  · next empty =>
    exact { box := fun h => {
      counted := by simp
      items := by simp [empty]
      value := by
        have zero : s.ret.box.counts.sum = 0 := h.items.symm.trans empty
        simp only [setBox_ret, tenderTotal_zero, h.value, sum_eq_zero_of_counts zero]
      accounts := h.accounts
      room := h.room
      capacity := h.capacity
      inForce := small
      waiting := h.waiting
      walk := fun w hw => ⟨(h.walk w hw).begun, (h.walk w hw).tender⟩ } }
  split
  · exact .refl s
  · exact { box := fun h => { h with
      waiting := fun x hx => by cases hx; exact small
      walk := fun w hw => ⟨(h.walk w hw).begun, (h.walk w hw).tender⟩ } }

theorem takeDenominations_items (ds : List Nat) : (s.takeDenominations ds).ret.box.items = s.ret.box.items := by
  unfold State.takeDenominations
  split
  · rfl
  split
  · rfl
  · rfl

theorem keeps_startCash {c : Configuration} (small : ∀ d ∈ c.denominations, d ≤ 50000)
    (room : s.ret.box.items ≤ 5000 → c.capacity ≤ 5000) : Keeps true s (s.startCash c) := by
  unfold State.startCash
  dsimp only
  refine .trans ?_ (keeps_findBand _)
  refine (keeps_takeDenominations s small).trans ?_
  exact { box := fun h => { h with
    capacity := fun x hx => by
      cases hx
      exact room (takeDenominations_items s c.denominations ▸ h.room)
    walk := fun w hw => ⟨(h.walk w hw).begun, (h.walk w hw).tender⟩ } }

theorem keeps_reqStart (q : StartRequest) : Keeps true s (reqStart q s).1 := by
  unfold reqStart
  split
  · exact .refl s
  split
  · exact .refl s
  · exact .refl s
  next c marks passes =>
  obtain ⟨capacity, small⟩ := checkStart_passes passes
  dsimp only
  unfold State.begin
  dsimp only
  have channel := keeps_startChannel s { number := strapNumber q.straps, config := c }
  have live := channel.trans (keeps_startLiveness _ c.liveness)
  have same : ∀ r : Running, ((((s.setLink (s.link.withConfiguration r)).startChannel r).startLiveness
      r.config.liveness).ret.box.items) = s.ret.box.items := fun r =>
    congrArg BoxCounters.items (sameBut_queueStatus _).box
  split
  · refine (live.trans (keeps_offerDeferred _)).trans (keeps_startCash _ small ?_)
    rw [(sameBut_offerDeferred _).box, same, capacity]
    omega
  · refine live.trans (keeps_startCash _ small ?_)
    rw [same, capacity]
    omega

end Start

/-! ### The machine link -/

section Link
variable (s : State)

theorem keeps_setLink {v : MachineLink} (running : v.running = s.link.running) : Keeps true s (s.setLink v) where
  distance := distanceLegal_congr running rfl

theorem keeps_settle : Keeps true s s.settle where
  distance := distanceLegal_congr (settle_running s) rfl

theorem keeps_respond (code : Nat) (a : Answer) : Keeps true s (s.respond code a) := keeps_setLink s rfl

theorem keeps_reqFaultRaise (kind detail : Nat) : Keeps true s (reqFaultRaise kind detail s).1 := by
  unfold reqFaultRaise
  split
  · exact .refl s
  split
  · exact .refl s
  · exact keeps_raise s _ _

theorem keeps_reqFaultClear (kind : Nat) : Keeps true s (reqFaultClear kind s).1 := by
  unfold reqFaultClear
  split
  · exact .refl s
  · exact keeps_clear s _

theorem keeps_reqFaultRead (sel : FaultSelector) : Keeps true s (reqFaultRead sel s).1 := by
  unfold reqFaultRead
  split
  · exact .refl s
  split
  · refine { bounded := fun h => { h with inbox := ?_ } }
    exact List.length_drop.le.trans ((Nat.sub_le _ _).trans h.inbox)
  · exact .refl s

theorem keeps_reqLookup (key : Nat) : Keeps true s (reqLookup key s).1 := by
  unfold reqLookup
  split <;> exact .refl s

theorem keeps_reqNeighboursRead : Keeps true s (reqNeighboursRead s).1 := by
  unfold reqNeighboursRead
  split <;> exact .refl s

/-- R163: a request handed to its block keeps the invariants, one arm for each request. -/
theorem keeps_handle (q : Request) : Keeps true s (s.handle q).1 := by
  cases q with
  | start r => exact keeps_reqStart s r
  | restart => exact keeps_warmStart s _
  | queryStatus => exact .refl s
  | setTime t => exact keeps_reqSetTime s t
  | tariffLoad o c => exact keeps_reqTariffLoad s o c
  | tariffCommit => exact keeps_reqTariffCommit s
  | tariffDiscard => exact keeps_reqTariffDiscard s
  | quote r => exact keeps_reqQuote s r
  | sell r => exact keeps_reqSell s r
  | lookup k => exact keeps_reqLookup s k
  | permitCheck p k => exact keeps_reqPermitCheck s p k
  | claimVisitorDay p k => exact keeps_reqClaimVisitorDay s p k
  | blockListLoad rs => exact keeps_reqBlockListLoad s rs
  | roundOpen k c => exact keeps_reqRoundOpen s k c
  | roundClose => exact keeps_reqRoundClose s
  | roundRead => exact .refl s
  | snapshot => exact keeps_reqSnapshot s
  | snapshotRead => exact keeps_reqSnapshotRead s
  | faultRaise k d => exact keeps_reqFaultRaise s k d
  | faultClear k => exact keeps_reqFaultClear s k
  | faultRead sel => exact keeps_reqFaultRead s sel
  | neighboursRead => exact keeps_reqNeighboursRead s

theorem keeps_examine (f : LinkFrame) : Keeps true s (s.examine f).1 := by
  unfold State.examine
  split
  · unfold State.examineContent
    split
    · exact .refl s
    · split <;> exact .refl s
    · split
      · exact .refl s
      · exact keeps_handle s _
  · exact .refl s

theorem keeps_takeRequest : Keeps true s s.takeRequest := by
  unfold State.takeRequest
  split
  · exact .refl s
  next f _ =>
  split
  · have examined := keeps_examine s f
    split
    · next e => rw [e] at examined; exact examined
    · next e => rw [e] at examined; exact examined.trans (keeps_respond _ _ _)
  · exact .refl s

theorem keeps_arrival : Keeps true s s.arrival := by
  unfold State.arrival
  split
  · exact .refl s
  dsimp only
  split
  · exact (keeps_startLiveness s _).trans (keeps_clear _ _)
  · exact keeps_startLiveness s _

theorem keeps_writeFrame (f : LinkFrame) : Keeps true s (s.writeFrame f) := by
  unfold State.writeFrame
  split
  · exact .refl s
  dsimp only
  have arrived := keeps_arrival s
  split
  · exact arrived.trans (keeps_setLink _ rfl)
  split
  · exact arrived.trans (keeps_warmStart _ _)
  · refine .trans ?_ (keeps_takeRequest _)
    exact arrived.trans (keeps_setLink _ rfl)

theorem refill_running (l : MachineLink) : l.refill.running = l.running := by
  unfold MachineLink.refill MachineLink.placeResponse MachineLink.placeNotice
  split
  · rfl
  · split
    · split <;> rfl
    · split <;> rfl

theorem keeps_readMailbox (whole : Bool) : Keeps true s (s.readMailbox whole) := by
  unfold State.readMailbox
  split
  · exact .refl s
  · refine .trans ?_ (keeps_takeRequest _)
    exact keeps_setLink s (refill_running _)

theorem keeps_endWalk : Keeps true s s.endWalk := by
  unfold State.endWalk
  split
  · exact .refl s
  next w hw => exact (keeps_concludeWalk hw).trans (keeps_respond _ _ _)

theorem keeps_whilePowered {f : State → State} (h : Keeps true s (f s)) : Keeps true s (s.whilePowered f) := by
  unfold State.whilePowered
  split
  · exact h.trans (keeps_settle _)
  · exact .refl s

end Link

/-! ### Every command -/

/-- Every command keeps the invariants, one arm for each. -/
theorem keeps_exec {i : Instr} {s t : State} (h : exec i s = .next t) : Keeps true s t := by
  have request (q : Request) (e : i = commandOf q) : Keeps true s t := by
    subst e
    rw [exec_commandOf] at h
    cases h
    exact keeps_whilePowered s (keeps_writeFrame s _)
  cases i with
  | start r => exact request (.start r) rfl
  | restart => exact request .restart rfl
  | queryStatus => exact request .queryStatus rfl
  | setTime z => exact request (.setTime z) rfl
  | tariffLoad o c => exact request (.tariffLoad o c) rfl
  | tariffCommit => exact request .tariffCommit rfl
  | tariffDiscard => exact request .tariffDiscard rfl
  | quote r => exact request (.quote r) rfl
  | sell r => exact request (.sell r) rfl
  | lookup k => exact request (.lookup k) rfl
  | permitCheck p k => exact request (.permitCheck p k) rfl
  | claimVisitorDay p k => exact request (.claimVisitorDay p k) rfl
  | blockListLoad rs => exact request (.blockListLoad rs) rfl
  | roundOpen k c => exact request (.roundOpen k c) rfl
  | roundClose => exact request .roundClose rfl
  | roundRead => exact request .roundRead rfl
  | snapshot => exact request .snapshot rfl
  | snapshotRead => exact request .snapshotRead rfl
  | faultRaise k d => exact request (.faultRaise k d) rfl
  | faultClear k => exact request (.faultClear k) rfl
  | faultRead sel => exact request (.faultRead sel) rfl
  | neighboursRead => exact request .neighboursRead rfl
  | mailboxWrite f => cases h; exact keeps_whilePowered s (keeps_writeFrame s _)
  | mailboxRead w => cases h; exact keeps_whilePowered s (keeps_readMailbox s w)
  | statusFrame x b =>
    cases h
    exact keeps_whilePowered s (keeps_receive s _ _ _ fun _ u => keeps_onStatus u _ _)
  | stayFrame x rs =>
    cases h
    exact keeps_whilePowered s (keeps_receiveRelayed s _ _ _ _ fun u => keeps_mergeRecords u _)
  | claimOpenFrame x b =>
    cases h
    exact keeps_whilePowered s (keeps_receiveRelayed s _ _ _ _ fun u => keeps_onClaimOpen u _ _)
  | claimFirmFrame x b =>
    cases h
    exact keeps_whilePowered s (keeps_receiveRelayed s _ _ _ _ fun u => keeps_onClaimFirm u _ _)
  | claimReleaseFrame x b =>
    cases h
    exact keeps_whilePowered s (keeps_receiveRelayed s _ _ _ _ fun u => keeps_onClaimRelease u _ _)
  | objectHeldFrame x b =>
    cases h
    exact keeps_whilePowered s (keeps_receiveRelayed s _ _ _ _ fun u => keeps_onObjectHeld u _)
  | objectCountFrame x b =>
    cases h
    exact keeps_whilePowered s (keeps_receiveRelayed s _ _ _ _ fun u => keeps_onObjectCount u _)
  | objectConcurrentFrame x b =>
    cases h
    exact keeps_whilePowered s (keeps_receiveRelayed s _ _ _ _ fun u => keeps_onObjectConcurrent u _)
  | roundOpenFrame x b =>
    cases h
    exact keeps_whilePowered s (keeps_receiveRelayed s _ _ _ _ fun u => keeps_onRound u _ _)
  | roundEntryFrame x b =>
    cases h
    exact keeps_whilePowered s (keeps_receiveRelayed s _ _ _ _ fun u => keeps_onRound u _ _)
  | roundCloseFrame x b =>
    cases h
    exact keeps_whilePowered s (keeps_receiveRelayed s _ _ _ _ fun u => keeps_onRound u _ _)
  | faultFrame x b => cases h; exact keeps_whilePowered s (keeps_receive s _ _ _ fun _ u => keeps_onFault u _ _)
  | carrierEnd => cases h; exact keeps_whilePowered s (keeps_endCarrier s)
  | channelGap => cases h; exact keeps_whilePowered s (keeps_endGap s)
  | contentionSlot n => cases h; exact keeps_whilePowered s (keeps_slotBegins s n)
  | idleWindow => cases h; exact keeps_whilePowered s (keeps_idleWindow s)
  | transmitCompletion => cases h; exact keeps_whilePowered s (keeps_completeSending s)
  | statusTimerExpiry => cases h; exact keeps_whilePowered s (keeps_statusExpiry s)
  | directTimerExpiry n => cases h; exact keeps_whilePowered s (keeps_directExpiry s n)
  | silenceTimerExpiry n => cases h; exact keeps_whilePowered s (keeps_silenceExpiry s n)
  | duplicateStationExpiry => cases h; exact keeps_whilePowered s (keeps_duplicateOver s)
  | secondCount =>
    cases h
    split
    · exact (keeps_countSecond s).trans (keeps_settle _)
    · exact keeps_backupCount s 1
  | walkEnd => cases h; exact keeps_whilePowered s (keeps_endWalk s)
  | objectionWindowExpiry => cases h; exact keeps_whilePowered s (keeps_windowOver s)
  | waitingPeriodExpiry => cases h; exact keeps_whilePowered s (keeps_waitOver s)
  | ageingTimerExpiry c => cases h; exact keeps_whilePowered s (keeps_ageOut s c)
  | doorOpening => cases h; exact (keeps_doorLine s true).trans (keeps_settle _)
  | doorClosing => cases h; exact (keeps_doorLine s false).trans (keeps_settle _)
  | boxRemoval => cases h; exact (keeps_boxLine s true).trans (keeps_settle _)
  | boxInsertion => cases h; exact (keeps_boxLine s false).trans (keeps_settle _)
  | authorizationTimerExpiry => cases h; exact keeps_whilePowered s (keeps_consume s)
  | doorTimerExpiry => cases h; exact keeps_whilePowered s (keeps_doorTimerOver s)
  | livenessTimerExpiry => cases h; exact keeps_whilePowered s (keeps_livenessExpiry s)
  | refreshTimerExpiry k => cases h; exact keeps_whilePowered s (keeps_refreshExpiry s k)
  | powerUp n spoiled => cases h; exact (keeps_powerUp s n spoiled).trans (keeps_settle _)
  | resetLine => cases h; exact (keeps_assertReset s).trans (keeps_settle _)
  | carrierSensed => cases h; exact keeps_whilePowered s (keeps_senseCarrier s)
  | resetLineRelease => cases h; exact (keeps_releaseReset s).trans (keeps_settle _)
  | mainPowerLoss => cases h; exact keeps_powerLoss s

/-- Every step keeps the invariants. -/
theorem keeps_step {s t : State} (h : step s = .next t) : Keeps true s t := by
  unfold step at h
  split at h
  · cases h
    exact .refl s
  · next cs _ =>
    have dequeued : Keeps true s (s.setPending cs) := {}
    exact dequeued.trans (keeps_exec h)

/-! ### The statements -/

/-- Settles O56. -/
theorem stepKeepsClockAndStaging : Obligations.StepKeepsClockAndStaging :=
  fun _ _ clock staging h => ⟨(keeps_step h).clock clock, (keeps_step h).staging staging⟩

/-- R151: the derived service state is HOLD exactly while the compartment is open. -/
theorem derivedService_hold_iff (s : State) : s.derivedService = .hold ↔ s.compartmentOpen = true := by
  unfold State.derivedService
  split
  · simp [*]
  · split
    · simp [*]
    · split <;> simp [*]

/-- Settles O57. -/
theorem stepKeepsServiceDerived : Obligations.StepKeepsServiceDerived :=
  ⟨fun _ _ derived h => (keeps_step h).service rfl derived, fun s derived power => by
    rw [derived power, derivedService_hold_iff]⟩

/-- Settles O58. -/
theorem stepKeepsDistanceLegal : Obligations.StepKeepsDistanceLegal := fun _ _ legal h => (keeps_step h).distance legal

/-- Settles O59. -/
theorem stepKeepsTablesBounded : Obligations.StepKeepsTablesBounded :=
  ⟨fun _ _ b h => (keeps_step h).bounded b, fun _ _ b o h => (keeps_step h).ordered b o,
    fun _ _ f h => (keeps_step h).flight f, fun _ _ b h => (keeps_step h).box b⟩

end Sys2Proof.Machine

/-! PROOF. The step, the state after reset, and the two mailboxes: O1, O2, O3, O4, O7, O15, O41 and O60. -/

namespace Sys2Proof.Machine

/-! ### The step, the programmes and the channel -/

/-- Settles O1. -/
theorem stepRunsFrontCommand : Obligations.StepRunsFrontCommand :=
  ⟨fun c cs s front => by simp [step, front], fun s idle => by simp [step, idle]⟩

theorem find_override {t : TariffTable} {day : Nat} {o : OverridePair} (mem : o ∈ t.overrides) (same : o.day = day)
    (distinct : (t.overrides.map OverridePair.day).Nodup) :
    t.overrides.find? (fun o => decide (o.day = day)) = some o := by
  cases found : t.overrides.find? (fun o => decide (o.day = day)) with
  | none =>
    have no := List.find?_eq_none.1 found o mem
    simp [same] at no
  | some x =>
    have named : x.day = day := by simpa using List.find?_some found
    have unique : x = o := List.inj_on_of_nodup_map distinct (List.mem_of_find?_eq_some found) mem (named.trans same.symm)
    rw [unique]

/-- Settles O15. -/
theorem programmeSelected : Obligations.ProgrammeSelected := by
  refine fun t day => ⟨fun o mem same distinct => ?override, fun free => ?weekday⟩
  case override => simp [programmeOf, find_override mem same distinct]
  case weekday =>
    have unnamed : t.overrides.find? (fun o => decide (o.day = day)) = none :=
      List.find?_eq_none.2 fun o mem => by simpa using free o mem
    simp [programmeOf, unnamed, weekday]

/-- While main power is present a step does what its command means, and fills the outbound mailbox. -/
theorem whilePowered_of_power {s : State} (h : s.supply.power = true) (f : State → State) :
    s.whilePowered f = (f s).settle := by simp [State.whilePowered, h]

/-- Settles O41. -/
theorem channelWindows : Obligations.ChannelWindows := by
  intro s power
  have powered := whilePowered_of_power power
  refine ⟨fun l window => ⟨?_, ?_⟩, fun gap => ⟨?_, ?_⟩, fun carrier => ?_⟩
  · simp [exec, execCarrierSensed, powered, State.senseCarrier, window]
  · simp [exec, execIdleWindow, powered, State.idleWindow, window]
  · simp [exec, execCarrierSensed, powered, State.senseCarrier, gap]
  · simp [exec, execChannelGap, powered, State.endGap, gap]
  · simp [exec, execCarrierEnd, powered, State.endCarrier, carrier]

/-! ### The state after reset -/

theorem reset_bounded : State.reset.Bounded := by constructor <;> decide

theorem reset_stayOrdered : State.reset.StayOrdered := ⟨.nil, .nil⟩

theorem reset_oneFlight : State.reset.OneFlight := ⟨by decide, by decide⟩

theorem reset_boxBalanced : State.reset.BoxBalanced := by
  constructor <;> simp [State.reset, Retained.initial, CashBlock.initial, BoxCounters.zero, tenderTotal]

/-- Settles O60. -/
theorem resetHasInvariants : Obligations.ResetHasInvariants :=
  ⟨by unfold clockInRange; decide, stagingWf_nil, fun _ => by decide, by unfold distanceLegal; decide, reset_bounded,
    reset_stayOrdered, reset_oneFlight, reset_boxBalanced, rfl, rfl, rfl⟩

/-! ### A frame written -/

/-- The state in which a written frame stands in the inbound mailbox, its arrival counted. -/
def State.holding (s : State) (f : LinkFrame) : State :=
  s.arrival.setLink { s.arrival.link with inbound := some f }

theorem arrival_of_heard {s : State} (h : s.faults.quiet ≠ 2) :
    s.arrival = s ∨ ∃ r, s.link.running = some r ∧ s.arrival = s.startLiveness r.config.liveness := by
  unfold State.arrival
  split
  · exact .inl rfl
  · next r running => exact .inr ⟨r, running, by simp [h]⟩

/-- R153: an arrival that ends no silence touches no block but the liveness timer. -/
theorem sameBlocks_arrival {s : State} (h : s.faults.quiet ≠ 2) :
    SameBlocks s s.arrival ∧ s.arrival.link = s.link ∧ s.arrival.walk = s.walk := by
  obtain e | ⟨r, -, e⟩ := arrival_of_heard h
  · rw [e]
    exact ⟨⟨rfl, rfl, rfl, rfl, rfl, rfl, rfl, rfl, rfl, rfl, rfl, rfl⟩, rfl, rfl⟩
  · rw [e]
    exact ⟨⟨rfl, rfl, rfl, rfl, rfl, rfl, rfl, rfl, rfl, rfl, rfl, rfl⟩, rfl, rfl⟩

theorem SameBlocks.setLink {s t : State} (h : SameBlocks s t) {v : MachineLink} (running : v.running = t.link.running) :
    SameBlocks s (t.setLink v) :=
  { h with running := running.trans h.running }

theorem sameBlocks_holding {s : State} (f : LinkFrame) (h : s.faults.quiet ≠ 2) : SameBlocks s (s.holding f) :=
  (sameBlocks_arrival h).1.setLink rfl

theorem holding_link {s : State} (f : LinkFrame) (h : s.faults.quiet ≠ 2) :
    (s.holding f).link = { s.link with inbound := some f } := by
  rw [State.holding, setLink_link, (sameBlocks_arrival h).2.1]

theorem holding_walk {s : State} (f : LinkFrame) (h : s.faults.quiet ≠ 2) : (s.holding f).walk = s.walk :=
  (sameBlocks_arrival h).2.2

/-- R162: a frame written into an empty inbound mailbox is held, and taken when the link is idle. -/
theorem writeFrame_of_empty {s : State} {f : LinkFrame} (released : s.supply.resetHeld = false)
    (empty : s.link.inbound = none) (heard : s.faults.quiet ≠ 2) (noStart : goodRestart f = false) :
    s.writeFrame f = (s.holding f).takeRequest := by
  have same : s.arrival.link = s.link := (sameBlocks_arrival heard).2.1
  simp [State.writeFrame, State.holding, released, same, empty, noStart]

/-- R163: while a response waits or is unread, or a walk is in progress, a held request is not taken. -/
theorem takeRequest_of_busy {t : State} (h : t.linkIdle = false) : t.takeRequest = t := by
  unfold State.takeRequest
  split
  · rfl
  · simp [h]

theorem exec_mailboxWrite {s : State} (power : s.supply.power = true) (w : WrittenFrame) :
    exec (.mailboxWrite w) s = .next (s.writeFrame (heldFrame w)).settle :=
  congrArg Host.Outcome.next (whilePowered_of_power power _)

theorem settle_link_of_full {s : State} (h : s.link.outbound.isSome = true) : s.settle.link = s.link := by
  simp [State.settle, MachineLink.settle, h]

/-- Settles O2. -/
theorem writeHeldBehindResponse : Obligations.WriteHeldBehindResponse := by
  intro s w x power released empty unread heard noStart
  have link : (s.holding (heldFrame w)).link = { s.link with inbound := some (heldFrame w) } := holding_link _ heard
  have busy : (s.holding (heldFrame w)).linkIdle = false := by
    simp [State.linkIdle, MachineLink.responseOut, link, unread]
  have settled : (s.holding (heldFrame w)).settle.link = { s.link with inbound := some (heldFrame w) } := by
    rw [settle_link_of_full (by simp [link, unread]), link]
  refine ⟨(s.holding (heldFrame w)).settle, ?_, ?_, ?_, ?_, ?_, ?_, ?_, holding_walk (heldFrame w) heard,
    (sameBlocks_holding _ heard).trans (sameBlocks_settle _)⟩
  · rw [exec_mailboxWrite power, writeFrame_of_empty released empty heard noStart, takeRequest_of_busy busy]
  all_goals simp [State.ready, settled]

/-- R162: a frame written into an occupied inbound mailbox is discarded. -/
theorem writeFrame_of_occupied {s : State} (f : LinkFrame) (released : s.supply.resetHeld = false)
    (occupied : s.arrival.link.inbound.isSome = true) :
    s.writeFrame f = s.arrival.setLink { s.arrival.link with overrun := true } := by
  simp [State.writeFrame, released, occupied]

/-- R164: a link whose response is not placed at the end of a step keeps its inbound mailbox, its flag and its response. -/
theorem settle_keeps_request {l : MachineLink} (h : l.waiting = none ∨ l.outbound.isSome = true) :
    l.settle.inbound = l.inbound ∧ l.settle.overrun = l.overrun ∧ l.settle.waiting = l.waiting := by
  unfold MachineLink.settle
  split
  · exact ⟨rfl, rfl, rfl⟩
  next empty =>
  have waiting : l.waiting = none := h.resolve_right empty
  simp only [waiting, Option.isSome_none, Bool.false_eq_true, if_false]
  unfold MachineLink.placeNotice
  split
  · exact ⟨rfl, rfl, waiting⟩
  · exact ⟨rfl, rfl, waiting⟩

theorem startLiveness_clear {s : State} {r : Running} (running : s.link.running = some r) :
    s.arrival.faults.liveness = livenessFrom r.config.liveness ∧ s.arrival.faults.quiet = 0 ∧
      s.arrival.link.inbound = s.link.inbound ∧ (s.faults.quiet = 2 → s.arrival.faultActive .hostSilent = false) := by
  unfold State.arrival
  simp only [running]
  split
  · have same := sameBut_clear (s.startLiveness r.config.liveness) .hostSilent
    obtain ⟨ns, link⟩ := same.link
    exact ⟨same.liveness, same.quiet, by rw [link]; rfl, fun _ => clearIf_inactive _ _ _⟩
  · next heard => exact ⟨rfl, rfl, rfl, fun silent => absurd silent heard⟩

theorem settle_link_running {s : State} (h : s.supply.power = true ∧ s.supply.resetHeld = false) :
    s.settle.link = s.link.settle := by simp [State.settle, h]

/-- Settles O3. -/
theorem occupiedWriteOverruns : Obligations.OccupiedWriteOverruns := by
  refine ⟨fun s w power released occupied stays heard => ?discarded, fun s r w power released running occupied => ?arrival⟩
  case discarded =>
    obtain ⟨blocks, link, walk⟩ := sameBlocks_arrival heard
    have written := writeFrame_of_occupied (heldFrame w) released (by rw [link]; exact occupied)
    have supply : (s.arrival.setLink { s.arrival.link with overrun := true }).supply = s.supply := blocks.supply
    have settled := settle_link_running (by rw [supply]; exact ⟨power, released⟩)
    obtain ⟨inbound, overrun, waiting⟩ :=
      settle_keeps_request (l := { s.arrival.link with overrun := true }) (by rw [link]; exact stays)
    rw [setLink_link] at settled
    have kept : SameBlocks s (s.arrival.setLink { s.arrival.link with overrun := true }) := blocks.setLink rfl
    refine ⟨_, exec_mailboxWrite power w, ?_⟩
    rw [written]
    refine ⟨?_, ?_, ?_, walk, kept.trans (sameBlocks_settle _)⟩
    · rw [settled, inbound, link]
    · rw [settled, overrun]
    · rw [settled, waiting, link]
  case arrival =>
    obtain ⟨liveness, quiet, inbound, cleared⟩ := startLiveness_clear running
    have written := writeFrame_of_occupied (heldFrame w) released (by rw [inbound]; exact occupied)
    refine ⟨_, exec_mailboxWrite power w, ?_⟩
    rw [written]
    exact ⟨liveness, quiet, cleared⟩

/-! ### A request taken at an open link -/

/-- R163: a frame taken at an open link and answered at once becomes the waiting response. -/
theorem writeFrame_of_examine {s u : State} {f : LinkFrame} {a : Answer} (h : s.LinkOpen) (noStart : goodRestart f = false)
    (examined : (s.holding f).examine f = (u, some a)) : s.writeFrame f = u.respond (frameCode f.content) a := by
  have link : (s.holding f).link = { s.link with inbound := some f } := holding_link _ h.heard
  have idle : (s.holding f).linkIdle = true := by
    simp [State.linkIdle, MachineLink.responseOut, link, h.waiting, h.outbound, holding_walk f h.heard, h.walk]
  rw [writeFrame_of_empty h.released h.inbound h.heard noStart]
  simp [State.takeRequest, link, idle, examined]

/-- R163: a frame that is answered without effect is answered in the step that writes it, and touches no block. -/
theorem answered_of_examine {s : State} {f : LinkFrame} {a : Answer} (h : s.LinkOpen) (noStart : goodRestart f = false)
    (examined : (s.holding f).examine f = (s.holding f, some a)) :
    (s.writeFrame f).settle.Answered (frameCode f.content) a ∧ (s.writeFrame f).settle.walk = none ∧
      SameBlocks s (s.writeFrame f).settle := by
  rw [writeFrame_of_examine h noStart examined]
  exact ⟨answered_respond_settle _ _ _, (holding_walk f h.heard).trans h.walk,
    sameBlocks_respond_settle (sameBlocks_holding f h.heard) _ _⟩

theorem exec_commandOf_of_power {s : State} (power : s.supply.power = true) (q : Request) :
    exec (commandOf q) s = .next (s.writeFrame (soundFrame q)).settle := by
  rw [exec_commandOf, whilePowered_of_power power]

theorem holding_started {s : State} (f : LinkFrame) (h : s.faults.quiet ≠ 2) : (s.holding f).started = s.started := by
  simp [State.started, holding_link f h]

/-- Settles O7. -/
theorem queryStatusGathers : Obligations.QueryStatusGathers := by
  intro s free
  have report : (s.holding (soundFrame .queryStatus)).queryReport = s.queryReport := by
    unfold State.holding
    obtain e | ⟨r, -, e⟩ := arrival_of_heard free.heard
    · rw [e]; rfl
    · rw [e]; rfl
  have examined : (s.holding (soundFrame .queryStatus)).examine (soundFrame .queryStatus) =
      (s.holding (soundFrame .queryStatus), some (.done (.status s.queryReport))) := by
    simp [State.examine, State.examineContent, soundFrame, requestCode, takenBeforeStart, State.handle, atOnce,
      reqQueryStatus, ← report]
  obtain ⟨answered, walk, blocks⟩ := answered_of_examine free (goodRestart_soundFrame (q := .queryStatus) nofun) examined
  exact ⟨_, exec_commandOf_of_power free.power .queryStatus, answered, walk, blocks⟩

/-! ### Requests gated -/

theorem examine_of_unsound {f : LinkFrame} (h : frameSound f = false) (t : State) :
    t.examine f = (t, some { result := .badFrame, body := .empty }) := by
  have unsound : ¬ (f.checkAgrees && f.lengthAgrees) = true := by simpa [frameSound] using h
  simp [State.examine, unsound]

theorem examine_of_sound {f : LinkFrame} (h : frameSound f = true) (t : State) : t.examine f = t.examineContent f.content :=
  if_pos h

/-- R163: at a started station an unknown code and a malformed body are BAD REQUEST. -/
theorem examineContent_of_no_request {t : State} {c : FrameContent} (started : t.started = true)
    (h : ∀ q, c ≠ .request q) : t.examineContent c = (t, some .bad) := by
  cases c with
  | unknown => rfl
  | malformed => simp [State.examineContent, started]
  | request q => exact absurd rfl (h q)

/-- R163: before START a request beyond the first four codes is NOT STARTED. -/
theorem examineContent_before_start {t : State} {c : FrameContent} (notStarted : t.started = false)
    (late : 4 < frameCode c) (known : ∀ x, c ≠ .unknown x) :
    t.examineContent c = (t, some { result := .notStarted, body := .empty }) := by
  cases c with
  | unknown x => exact absurd rfl (known x)
  | malformed code =>
    have gated : takenBeforeStart code = false := by
      simp only [takenBeforeStart, decide_eq_false_iff_not, not_and, not_le]
      exact fun _ => late
    simp [State.examineContent, notStarted, gated]
  | request q =>
    have gated : takenBeforeStart (requestCode q) = false := by
      simp only [takenBeforeStart, decide_eq_false_iff_not, not_and, not_le]
      exact fun _ => late
    simp [State.examineContent, notStarted, gated]

theorem goodRestart_of_content {f : LinkFrame} (h : f.content ≠ .request .restart) : goodRestart f = false := by
  simp [goodRestart, h]

theorem goodRestart_of_unsound {f : LinkFrame} (h : frameSound f = false) : goodRestart f = false := by
  unfold goodRestart
  unfold frameSound at h
  rw [h, Bool.false_and]

theorem field_of_append (pre mid post : List Byte) : field (pre ++ mid ++ post) pre.length mid.length = bigEndian mid := by
  simp [field]

/-- 10.4: a frame laid out as the link asks is right in its check and its length, and holds what its body reads as. -/
theorem heldFrame_requestBytes {code : Nat} {body : List Byte} (q : Option Request) (fits : code < 256)
    (short : body.length < 65536) : heldFrame { octets := requestBytes code body, spelled := q } =
      { lengthAgrees := true, checkAgrees := true, content := contentOf code body q } := by
  have bytes : beforeCheck (requestBytes code body) = toBytes 1 code ++ toBytes 2 body.length ++ body := by
    simp [requestBytes]
  have codeField : field (toBytes 1 code ++ toBytes 2 body.length ++ body) 0 1 = code := by
    have := field_of_append [] (toBytes 1 code) (toBytes 2 body.length ++ body)
    simpa [bigEndian_toBytes (k := 1) fits] using this
  have lengthField : field (toBytes 1 code ++ toBytes 2 body.length ++ body) 1 2 = body.length := by
    have := field_of_append (toBytes 1 code) (toBytes 2 body.length) body
    simpa [bigEndian_toBytes (k := 2) short] using this
  have right : checkRight (requestBytes code body) = true := by
    simp only [checkRight, requestBytes, beforeCheck_withCheck]
    simp only [withCheck, List.length_append, length_toBytes, Nat.add_sub_cancel, List.drop_left, decide_eq_true_eq]
    exact ⟨Nat.le_add_left _ _, bigEndian_toBytes (k := 2) (checkOf _).isLt⟩
  have rest : (toBytes 1 code ++ toBytes 2 body.length ++ body).drop 3 = body := by
    rw [List.drop_left' (by simp)]
  have lengthRight : 3 ≤ (toBytes 1 code ++ toBytes 2 body.length ++ body).length ∧
      (toBytes 1 code ++ toBytes 2 body.length ++ body).length - 3 = body.length := by
    simp only [List.length_append, length_toBytes]
    omega
  simp only [heldFrame, bytes, codeField, lengthField, right, rest, lengthRight, decide_true, and_self]

/-- Settles O4. -/
theorem requestsGated : Obligations.RequestsGated := by
  refine ⟨fun s r w free => ⟨fun unsound => ?unsound, fun sound noRequest => ?unread⟩,
    fun s w free unstarted sound late known => ?early, fun s q free unstarted late => ?command,
    fun w wrong => by simp [frameSound, heldFrame, wrong], fun code body q fits short => heldFrame_requestBytes q fits short⟩
  case unsound =>
    obtain ⟨answered, walk, blocks⟩ := answered_of_examine free.isOpen (goodRestart_of_unsound unsound)
      (examine_of_unsound unsound _)
    exact ⟨_, exec_mailboxWrite free.isOpen.power w, answered, walk, blocks⟩
  case unread =>
    have started : (s.holding (heldFrame w)).started = true := by
      rw [holding_started _ free.isOpen.heard, State.started, free.running]
      rfl
    obtain ⟨answered, walk, blocks⟩ := answered_of_examine free.isOpen (goodRestart_of_content (noRequest _))
      ((examine_of_sound sound _).trans (examineContent_of_no_request started noRequest))
    exact ⟨_, exec_mailboxWrite free.isOpen.power w, answered, walk, blocks⟩
  case early =>
    have notStarted : (s.holding (heldFrame w)).started = false := by
      rw [holding_started _ free.heard, State.started, unstarted]
      rfl
    have noRestart : (heldFrame w).content ≠ .request .restart := fun e => by
      rw [e] at late
      exact absurd late (by decide)
    obtain ⟨answered, walk, blocks⟩ := answered_of_examine free (goodRestart_of_content noRestart)
      ((examine_of_sound sound _).trans (examineContent_before_start notStarted late known))
    exact ⟨_, exec_mailboxWrite free.power w, answered, walk, blocks⟩
  case command =>
    have notStarted : (s.holding (soundFrame q)).started = false := by
      rw [holding_started _ free.heard, State.started, unstarted]
      rfl
    have noRestart : q ≠ .restart := by
      rintro rfl
      exact absurd late (by decide)
    obtain ⟨answered, walk, blocks⟩ := answered_of_examine free (goodRestart_soundFrame noRestart)
      ((examine_of_sound rfl _).trans (examineContent_before_start notStarted late nofun))
    exact ⟨_, exec_commandOf_of_power free.power q, answered, walk, blocks⟩

end Sys2Proof.Machine

/-! PROOF. Requests that only read, or change one item: O16, O20, O24, O27 and O53. -/

namespace Sys2Proof.Machine

section Answers
variable {s v u : State} {r : Running} {q : Request} {a : Answer}

/-- R163: a request answered at once, with its effects in the order that the claims name them. -/
theorem answered_at_once (free : s.LinkFree r) (hq : q ≠ .restart) (handled : (s.taking r q).handle q = (u, some a))
    (walk : u.walk = none) (blocks : SameBlocks v u) :
    ∃ t, exec (commandOf q) s = .next t ∧ t.Answered (requestCode q) a ∧ t.walk = none ∧ SameBlocks v t := by
  obtain ⟨t, step, walk, answered, blocks⟩ := exec_commandOf_answered free hq handled walk blocks
  exact ⟨t, step, answered, walk, blocks⟩

/-- R163: a request that its block answers without effect. -/
theorem answered_without_effect (free : s.LinkFree r) (hq : q ≠ .restart)
    (handled : (s.taking r q).handle q = (s.taking r q, some a)) :
    ∃ t, exec (commandOf q) s = .next t ∧ t.Answered (requestCode q) a ∧ t.walk = none ∧ SameBlocks s t :=
  answered_at_once free hq handled free.isOpen.walk (sameBlocks_taking s r q)

/-- R163: a request that is not answered at once is held: its command ends with the block's work, and READY is low. -/
theorem held_of_handle (free : s.LinkFree r) (hq : q ≠ .restart) (handled : (s.taking r q).handle q = (u, none))
    (inbound : u.link.inbound = some (soundFrame q)) (waiting : u.link.waiting = none) :
    exec (commandOf q) s = .next u.settle ∧ u.settle.link.inbound = some (soundFrame q) ∧ u.settle.ready = false := by
  have idle : (s.taking r q).linkIdle = true := by
    simp [State.linkIdle, MachineLink.responseOut, free.isOpen.waiting, free.isOpen.outbound, free.isOpen.walk]
  have started : (s.taking r q).started = true := by simp [State.started, free.running]
  have taken : (s.taking r q).takeRequest = u := by
    simp only [State.takeRequest, taking_link, idle, if_true, examine_soundFrame started, handled]
  have kept : u.settle.link.inbound = some (soundFrame q) := by
    unfold State.settle
    rw [setLink_link]
    split
    · rw [(settle_keeps_request (.inl waiting)).1, inbound]
    · exact inbound
  refine ⟨?_, kept, by simp [State.ready, kept]⟩
  rw [exec_commandOf_of_power free.isOpen.power, writeFrame_of_free free hq, taken]

end Answers

/-! ### BLOCK LIST LOAD (R108) -/

theorem firstRange_eq_none {test : BlockRange → Bool} {i : Nat} {rs : List BlockRange} (h : ∀ x ∈ rs, test x = false) :
    firstRange test i rs = none := by
  induction rs generalizing i with
  | nil => rfl
  | cons x xs ih => simp [firstRange, h x (by simp), ih fun y hy => h y (by simp [hy])]

theorem firstRange_eq_some {test : BlockRange → Bool} {rs : List BlockRange} {i j : Nat} {x : BlockRange}
    (at_i : rs[i]? = some x) (hit : test x = true) (before : ∀ k y, k < i → rs[k]? = some y → test y = false) :
    firstRange test j rs = some (j + i) := by
  induction rs generalizing i j with
  | nil => simp at at_i
  | cons y ys ih =>
    cases i with
    | zero =>
      obtain rfl : y = x := by simpa using at_i
      simp [firstRange, hit]
    | succ i =>
      have miss : test y = false := before 0 y (Nat.succ_pos i) rfl
      have later := ih (j := j + 1) (i := i) (by simpa using at_i) fun k z lt at_k =>
        before (k + 1) z (Nat.succ_lt_succ lt) (by simpa using at_k)
      simp only [firstRange, miss, Bool.false_eq_true, if_false, later]
      congr 1
      omega

/-- R106: an inactive range is no active one. -/
theorem countP_active_append_inactive (rs : List BlockRange) (n : Nat) :
    (rs ++ List.replicate n BlockRange.inactive).countP rangeActive = rs.countP rangeActive := by
  rw [List.countP_append, List.countP_replicate]
  rfl

/-- Settles O27. -/
theorem blockListLoadReplaces : Obligations.BlockListLoadReplaces := by
  intro s r rs free fits
  have short : ¬ 16 < rs.length := Nat.not_lt.2 fits
  refine ⟨fun ordered => ?replaced, fun i x at_i reversed before => ?refused⟩
  case replaced =>
    have good : badRange rs = none := firstRange_eq_none fun x hx => by
      simpa using Nat.not_lt.2 (ordered x hx)
    have handled : reqBlockListLoad rs (s.taking r (.blockListLoad rs)) =
        ((s.taking r (.blockListLoad rs)).setRet
          { s.ret with blockList := rs ++ List.replicate (16 - rs.length) BlockRange.inactive },
          .done (.ranges (rs.countP rangeActive))) := by
      simp only [reqBlockListLoad, short, if_false, good, countP_active_append_inactive]
      rfl
    obtain ⟨t, step, answered, walk, blocks⟩ := answered_at_once (q := .blockListLoad rs) free nofun
      (congrArg atOnce handled) free.isOpen.walk ((sameBlocks_taking s r (.blockListLoad rs)).setRet _)
    have list : t.ret.blockList = rs ++ List.replicate (16 - rs.length) BlockRange.inactive := by
      rw [blocks.ret]; rfl
    refine ⟨t, step, walk, list, answered, ?_⟩
    rw [list]
    exact blocks
  case refused =>
    have bad : badRange rs = some i := by
      have := firstRange_eq_some (test := fun r => decide (r.high < r.low)) (j := 0) at_i (by simpa using reversed)
        fun k y lt at_k => by simpa using Nat.not_lt.2 (before k y lt at_k)
      simpa [badRange] using this
    have handled : reqBlockListLoad rs (s.taking r (.blockListLoad rs)) =
        (s.taking r (.blockListLoad rs), .refuse .badRange (.range i)) := by
      simp only [reqBlockListLoad, short, if_false, bad]
    exact answered_without_effect (q := .blockListLoad rs) free nofun (congrArg atOnce handled)

/-! ### LOOKUP (R100) -/

theorem insertByExpiry_perm (x : StayRecord) (rs : List StayRecord) : (insertByExpiry x rs).Perm (x :: rs) := by
  induction rs with
  | nil => exact .refl _
  | cons y ys ih =>
    unfold insertByExpiry
    split
    · exact .refl _
    · exact (ih.cons y).trans (.swap x y ys)

/-- Records with the latest expiry first. -/
def LatestFirst (rs : List StayRecord) : Prop := rs.Pairwise fun x y => y.expiry ≤ x.expiry

theorem latestFirst_insertByExpiry {x : StayRecord} {rs : List StayRecord} (h : LatestFirst rs) :
    LatestFirst (insertByExpiry x rs) := by
  induction rs with
  | nil => exact List.pairwise_singleton _ _
  | cons y ys ih =>
    obtain ⟨first, rest⟩ := List.pairwise_cons.1 h
    unfold insertByExpiry
    split
    · next later =>
      refine List.pairwise_cons.2 ⟨fun z hz => ?_, h⟩
      rcases List.mem_cons.1 hz with rfl | hz
      · exact later.le
      · exact (first z hz).trans later.le
    · next notLater =>
      refine List.pairwise_cons.2 ⟨fun z hz => ?_, ih rest⟩
      rcases List.mem_cons.1 ((insertByExpiry_perm x ys).mem_iff.1 hz) with rfl | hz
      · exact Nat.not_lt.1 notLater
      · exact first z hz

/-- The records that expire at a time, in the order of the list. -/
def expiringAt (z : Nat) (rs : List StayRecord) : List StayRecord := rs.filter fun x => decide (x.expiry = z)

/-- A record joins behind those of its own expiry. -/
theorem expiringAt_insertByExpiry {x : StayRecord} {rs : List StayRecord} (h : LatestFirst rs) (z : Nat) :
    expiringAt z (insertByExpiry x rs) = expiringAt z rs ++ expiringAt z [x] := by
  induction rs with
  | nil => rfl
  | cons y ys ih =>
    obtain ⟨first, rest⟩ := List.pairwise_cons.1 h
    unfold insertByExpiry
    split
    · next later =>
      by_cases now : x.expiry = z
      · have none_left : expiringAt z (y :: ys) = [] := by
          rw [expiringAt, List.filter_eq_nil_iff]
          intro w hw
          have before : w.expiry ≤ y.expiry := by
            rcases List.mem_cons.1 hw with rfl | hw
            · exact le_rfl
            · exact first w hw
          simp only [decide_eq_true_eq]
          omega
        have joins : expiringAt z (x :: y :: ys) = expiringAt z [x] ++ expiringAt z (y :: ys) := by
          simp only [expiringAt, ← List.filter_append, List.singleton_append]
        rw [joins, none_left, List.nil_append, List.append_nil]
      · simp [expiringAt, List.filter_cons, now]
    · have tail := ih rest
      simp only [expiringAt] at tail ⊢
      rw [List.filter_cons, List.filter_cons, tail]
      split <;> simp

/-- R100: the records of a list ordered by expiry. -/
def byExpiry (rs : List StayRecord) : List StayRecord := rs.foldl (fun acc r => insertByExpiry r acc) []

theorem byExpiry_append (rs : List StayRecord) (x : StayRecord) : byExpiry (rs ++ [x]) = insertByExpiry x (byExpiry rs) := by
  simp [byExpiry]

/-- R100: ordering by expiry is a stable sort. -/
theorem byExpiry_sorts (rs : List StayRecord) : (byExpiry rs).Perm rs ∧ LatestFirst (byExpiry rs) ∧
    ∀ z, expiringAt z (byExpiry rs) = expiringAt z rs := by
  induction rs using List.reverseRecOn with
  | nil => exact ⟨.refl _, .nil, fun _ => rfl⟩
  | append_singleton rs x ih =>
    obtain ⟨perm, sorted, stable⟩ := ih
    rw [byExpiry_append]
    refine ⟨?_, latestFirst_insertByExpiry sorted, fun z => ?_⟩
    · exact ((insertByExpiry_perm x _).trans (perm.cons x)).trans (List.perm_append_singleton x rs).symm
    · rw [expiringAt_insertByExpiry sorted, stable]
      simp [expiringAt]

/-- Settles O24. -/
theorem lookupFindsByKey : Obligations.LookupFindsByKey := by
  intro s r key free
  refine ⟨fun zero => ?_, fun nonzero => ?_⟩
  · subst zero
    exact answered_without_effect (q := .lookup 0) free nofun rfl
  · obtain ⟨perm, sorted, stable⟩ := byExpiry_sorts (s.stay.ofKey key)
    refine ⟨byExpiry (s.stay.ofKey key), perm, sorted, stable, ?_⟩
    have handled : reqLookup key (s.taking r (.lookup key)) = (s.taking r (.lookup key),
        .done (.found (s.stay.ofKey key).length
          (((byExpiry (s.stay.ofKey key)).take 4).map fun x => (lookState x s.ret.clock.time, x)) s.ret.clock.time
          s.ret.clock.set)) := by
      rw [← perm.length_eq, reqLookup, if_neg nonzero]
      rfl
    obtain ⟨t, step, answered, walk, blocks⟩ := answered_without_effect (q := .lookup key) free nofun
      (congrArg atOnce handled)
    exact ⟨t, step, walk, blocks, answered⟩

/-! ### NEIGHBOURS READ (R23) -/

/-- R23: the item of the i-th entry of a list that counts station numbers from n, if it is not UNHEARD. -/
def itemAt (n : Nat) (es : List Neighbour) (i : Nat) : Option NeighbourItem :=
  let e := es.getD i Neighbour.initial
  if e.state = .unheard then none
  else some { station := n + i, state := e.state, direct := e.direct, lastHeard := e.lastHeard, disputed := e.disputed
              reported := e.reported }

theorem neighbourItems_eq_filterMap (n : Nat) (es : List Neighbour) :
    neighbourItems n es = (List.range es.length).filterMap (itemAt n es) := by
  induction es generalizing n with
  | nil => rfl
  | cons e es ih =>
    have shifted : (itemAt n (e :: es)) ∘ Nat.succ = itemAt (n + 1) es := by
      funext i
      simp [itemAt, Nat.add_assoc, Nat.add_comm 1 i]
    rw [List.length_cons, List.range_succ_eq_map, List.filterMap_cons, List.filterMap_map, shifted, ← ih]
    by_cases unheard : e.state = .unheard
    · simp [neighbourItems, itemAt, unheard]
    · simp [neighbourItems, itemAt, unheard]

/-- Settles O53. -/
theorem neighboursReadGives : Obligations.NeighboursReadGives := by
  intro s r free
  have handled : reqNeighboursRead (s.taking r .neighboursRead) = (s.taking r .neighboursRead, .done (.neighbours
      { number := r.number, mode := r.config.mode, hopLimit := r.config.hopLimit, distance := s.chan.distance
        items := if r.number = 0 then [] else (List.range s.chan.neighbours.length).filterMap
          (itemAt 1 s.chan.neighbours) })) := by
    have running : (s.taking r .neighboursRead).link.running = some r := free.running
    simp only [reqNeighboursRead, running, ← neighbourItems_eq_filterMap]
    rfl
  obtain ⟨t, step, answered, walk, blocks⟩ := answered_without_effect (q := .neighboursRead) free nofun
    (congrArg atOnce handled)
  have items : itemAt 1 s.chan.neighbours = fun i =>
      if (s.neighbour (i + 1)).state = .unheard then none
      else some { station := i + 1, state := (s.neighbour (i + 1)).state, direct := (s.neighbour (i + 1)).direct
                  lastHeard := (s.neighbour (i + 1)).lastHeard, disputed := (s.neighbour (i + 1)).disputed
                  reported := (s.neighbour (i + 1)).reported } := by
    funext i
    simp [itemAt, State.neighbour, Nat.add_comm 1 i]
  rw [items] at answered
  exact ⟨t, step, walk, blocks, answered⟩

/-! ### QUOTE, and the end of its walk (R77) -/

theorem sameBlocks_setWalk {s t : State} (h : SameBlocks s t) (w : Option Walk) : SameBlocks s (t.setWalk w) := { h with }

theorem sameBlocks_endingWalk (s : State) : SameBlocks s (s.setWalk none) :=
  ⟨rfl, rfl, rfl, rfl, rfl, rfl, rfl, rfl, rfl, rfl, rfl, rfl⟩

/-- Settles O16. -/
theorem quoteBeginsWalk : Obligations.QuoteBeginsWalk := by
  refine ⟨fun s r q free form => ?malformed, fun s r q free form => ⟨fun unset => ?unset, fun set none => ?noTariff,
    fun table id reason set active extends_ refused => ?refused, fun table set active known exempt => ?exempt,
    fun table d set active discount => ⟨fun new => ?new, fun id h extends_ found => ?extension⟩⟩⟩
  case malformed =>
    have handled : reqQuote q (s.taking r (.quote q)) = (s.taking r (.quote q), some .bad) := by simp [reqQuote, form]
    exact answered_without_effect (q := .quote q) free nofun handled
  all_goals have clock : (s.taking r (.quote q)).ret = s.ret := rfl
  case unset =>
    have handled : reqQuote q (s.taking r (.quote q)) = (s.taking r (.quote q), some (.refuse .timeUnset)) := by
      simp [reqQuote, form, clock, unset]
    exact answered_without_effect (q := .quote q) free nofun handled
  case noTariff =>
    have handled : reqQuote q (s.taking r (.quote q)) = (s.taking r (.quote q), some (.refuse .noTariff)) := by
      simp [reqQuote, form, clock, set, none]
    exact answered_without_effect (q := .quote q) free nofun handled
  case refused =>
    have record : extensionRecord (s.taking r (.quote q)).stay table.name id (s.taking r (.quote q)).now =
        .error reason := refused
    have handled : reqQuote q (s.taking r (.quote q)) = (s.taking r (.quote q), some (.refuse reason)) := by
      simp [reqQuote, form, clock, set, active, extends_, record]
    exact answered_without_effect (q := .quote q) free nofun handled
  case exempt =>
    have handled : reqQuote q (s.taking r (.quote q)) = (s.taking r (.quote q), some (.refuse .exempt)) := by
      cases extends_ : q.extend with
      | none => simp [reqQuote, form, clock, set, active, extends_, exempt]
      | some id =>
        obtain ⟨h, found⟩ := known id extends_
        have record : extensionRecord (s.taking r (.quote q)).stay table.name id (s.taking r (.quote q)).now = .ok h :=
          found
        simp [reqQuote, form, clock, set, active, extends_, record, exempt]
    exact answered_without_effect (q := .quote q) free nofun handled
  all_goals have taken := sameBlocks_taking s r (.quote q)
  case new =>
    have handled : reqQuote q (s.taking r (.quote q)) = ((s.taking r (.quote q)).setWalk
        (some (beginWalk table (q.start.getD s.ret.clock.time) q.asked d none none)), none) := by
      simp [reqQuote, form, clock, set, active, new, discount, State.now]
    obtain ⟨step, inbound, ready⟩ := held_of_handle (q := .quote q) free nofun handled rfl free.isOpen.waiting
    exact ⟨_, step, inbound, ready, rfl, (sameBlocks_setWalk taken _).trans (sameBlocks_settle _)⟩
  case extension =>
    have record : extensionRecord (s.taking r (.quote q)).stay table.name id (s.taking r (.quote q)).now = .ok h := found
    have handled : reqQuote q (s.taking r (.quote q)) = ((s.taking r (.quote q)).setWalk
        (some (beginWalk table s.ret.clock.time q.asked d (some h) none)), none) := by
      simp [reqQuote, form, clock, set, active, extends_, record, discount]
      rfl
    obtain ⟨step, inbound, ready⟩ := held_of_handle (q := .quote q) free nofun handled rfl free.isOpen.waiting
    exact ⟨_, step, inbound, ready, rfl, (sameBlocks_setWalk taken _).trans (sameBlocks_settle _)⟩

/-- R57: the end of a walk answers its request. -/
theorem exec_walkEnd {s u : State} {w : Walk} {a : Answer} (power : s.supply.power = true) (walk : s.walk = some w)
    (concluded : (s.setWalk none).concludeWalk w = (u, a)) :
    exec .walkEnd s = .next (u.respond (if w.sale.isSome then 9 else 8) a).settle := by
  have ended : s.endWalk = u.respond (if w.sale.isSome then 9 else 8) a := by simp only [State.endWalk, walk, concluded]
  exact congrArg Host.Outcome.next ((whilePowered_of_power power _).trans (by rw [ended]))

/-- Settles O20. -/
theorem walkEndAnswersQuote : Obligations.WalkEndAnswersQuote := by
  intro s w power _ walk quote
  cases outcome : walkOutcome w with
  | result x =>
    have concluded : (s.setWalk none).concludeWalk w = (s.setWalk none, .done (.quoted x)) := by
      simp only [State.concludeWalk, outcome, quote]
    have step := exec_walkEnd power walk concluded
    rw [quote] at step
    refine ⟨_, step, rfl, sameBlocks_respond_settle (sameBlocks_endingWalk s) _ _, fun y e => ?_, nofun⟩
    cases e
    exact answered_respond_settle _ _ _
  | refused reason clamp =>
    have concluded : (s.setWalk none).concludeWalk w = (s.setWalk none, .refuse reason (.clamp clamp)) := by
      simp only [State.concludeWalk, outcome]
      rfl
    have step := exec_walkEnd power walk concluded
    rw [quote] at step
    refine ⟨_, step, rfl, sameBlocks_respond_settle (sameBlocks_endingWalk s) _ _, nofun, fun y c e => ?_⟩
    cases e
    exact answered_respond_settle _ _ _

end Sys2Proof.Machine

/-! PROOF. Notices: which a step gives, and which it leaves (R166). -/

namespace Sys2Proof.Machine

/-! ### The pending notices of a kind -/

/-- The pending notices of one kind. -/
def State.noticesOf (s : State) (k : NoticeKind) : List Notice := s.link.notices.filter fun n => decide (n.body.kind = k)

theorem mem_noticesOf {s : State} {k : NoticeKind} {n : Notice} :
    n ∈ s.noticesOf k ↔ n ∈ s.link.notices ∧ n.body.kind = k := by simp [State.noticesOf]

/-- R166: a notice of another kind leaves those of a kind. -/
theorem filter_joinNotices {ns : List Notice} {n : Notice} {k : NoticeKind} (h : n.body.kind ≠ k) :
    (joinNotices ns n).filter (fun m => decide (m.body.kind = k)) = ns.filter fun m => decide (m.body.kind = k) := by
  have replaced : (ns.map fun m => if m.body.kind = n.body.kind then n else m).filter
      (fun m => decide (m.body.kind = k)) = ns.filter fun m => decide (m.body.kind = k) := by
    induction ns with
    | nil => rfl
    | cons m ms ih =>
      rw [List.map_cons, List.filter_cons, List.filter_cons, ih]
      by_cases same : m.body.kind = n.body.kind
      · simp [same, h]
      · simp [same]
  unfold joinNotices
  split
  · exact replaced
  · simp [List.filter_append, h]

/-- R166: a notice that joins is pending. -/
theorem mem_joinNotices (ns : List Notice) (n : Notice) : n ∈ joinNotices ns n := by
  unfold joinNotices
  split
  · next held =>
    obtain ⟨m, mem, same⟩ := List.any_eq_true.1 held
    exact List.mem_map.2 ⟨m, mem, if_pos (by simpa using same)⟩
  · simp

theorem noticesOf_give {s : State} {b : NoticeBody} {k : NoticeKind} (h : b.kind ≠ k) :
    (s.give b).noticesOf k = s.noticesOf k := by
  unfold State.give
  split
  · rfl
  · exact filter_joinNotices h

/-- R166: a notice given, of a kind not at level OFF, is pending. -/
theorem mem_give {s : State} {b : NoticeBody} (h : s.link.level b.kind ≠ .off) :
    { body := b, givenAt := s.now } ∈ (s.give b).link.notices := by
  simp [State.give, h, mem_joinNotices]

theorem noticed_of_mem {t : State} {n : Notice} (h : n ∈ t.link.notices) : t.Noticed n.body := ⟨n, rfl, .inl h⟩

theorem noticed_give {s : State} {b : NoticeBody} (h : s.link.level b.kind ≠ .off) : (s.give b).Noticed b :=
  noticed_of_mem (n := { body := b, givenAt := s.now }) (mem_give h)

/-- A notice stands or not by the outbound mailbox and the pending notices of its kind. -/
theorem noticed_congr {s t : State} {b : NoticeBody} (outbound : t.link.outbound = s.link.outbound)
    (pending : t.noticesOf b.kind = s.noticesOf b.kind) : t.Noticed b ↔ s.Noticed b := by
  have mem (n : Notice) (e : n.body = b) : n ∈ t.link.notices ↔ n ∈ s.link.notices := by
    have := (Iff.of_eq (congrArg (n ∈ ·) pending))
    simpa only [mem_noticesOf, e, and_true] using this
  constructor
  · rintro ⟨n, e, held⟩
    exact ⟨n, e, held.imp (mem n e).1 (outbound ▸ ·)⟩
  · rintro ⟨n, e, held⟩
    exact ⟨n, e, held.imp (mem n e).2 (outbound ▸ ·)⟩

/-! ### The end of a step -/

/-- A notice that the link holds, pending or in the outbound mailbox. -/
def MachineLink.Holds (l : MachineLink) (n : Notice) : Prop := n ∈ l.notices ∨ l.outbound = some (.notice n)

theorem holds_placeNotice {l : MachineLink} {n : Notice} (empty : l.outbound = none) :
    l.placeNotice.Holds n ↔ l.Holds n := by
  have before : l.Holds n ↔ n ∈ l.notices := by simp [MachineLink.Holds, empty]
  rw [before]
  unfold MachineLink.placeNotice
  split
  · exact before
  · next m next =>
    have taken : m ∈ l.notices := mem_of_nextNotice next
    constructor
    · rintro (pending | placed)
      · exact List.mem_of_mem_erase pending
      · obtain rfl : m = n := by simpa using placed
        exact taken
    · intro held
      by_cases same : n = m
      · exact .inr (by rw [same])
      · exact .inl ((List.mem_erase_of_ne same).2 held)

theorem holds_placeResponse {l : MachineLink} {n : Notice} (empty : l.outbound = none) :
    l.placeResponse.Holds n ↔ l.Holds n := by
  unfold MachineLink.placeResponse
  split
  · exact Iff.rfl
  · simp [MachineLink.Holds, empty]

/-- R164: filling the outbound mailbox moves notices, and neither makes nor loses one. -/
theorem holds_settle (l : MachineLink) (n : Notice) : l.settle.Holds n ↔ l.Holds n := by
  unfold MachineLink.settle
  split
  · exact Iff.rfl
  next full =>
  have empty : l.outbound = none := by simpa using full
  have notice := holds_placeNotice (n := n) empty
  have response := holds_placeResponse (n := n) empty
  split
  · split
    · exact response
    split
    · exact notice
    · exact response
  · exact notice

@[simp] theorem noticed_settle {t : State} {b : NoticeBody} : t.settle.Noticed b ↔ t.Noticed b := by
  have same (n : Notice) : t.settle.link.Holds n ↔ t.link.Holds n := by
    rw [State.settle, setLink_link]
    split
    · exact holds_settle _ n
    · exact Iff.rfl
  exact exists_congr fun n => and_congr_right fun _ => same n

@[simp] theorem noticed_respond {t : State} {code : Nat} {a : Answer} {b : NoticeBody} :
    (t.respond code a).Noticed b ↔ t.Noticed b := Iff.rfl

/-! ### What reports leave of the notices -/

/-- From s to t no notice was given but FAULT INBOX and SERVICE CHANGED, and the outbound mailbox stands. -/
structure NoticesKept (s t : State) : Prop where
  pending : ∀ k, k ≠ .faultInbox → k ≠ .serviceChanged → t.noticesOf k = s.noticesOf k
  outbound : t.link.outbound = s.link.outbound

namespace NoticesKept

theorem refl (s : State) : NoticesKept s s := ⟨fun _ _ _ => rfl, rfl⟩

theorem trans {s t u : State} (h : NoticesKept s t) (k : NoticesKept t u) : NoticesKept s u :=
  ⟨fun x a b => (k.pending x a b).trans (h.pending x a b), k.outbound.trans h.outbound⟩

theorem of_link {s t : State} (h : t.link = s.link) : NoticesKept s t :=
  ⟨fun k _ _ => by simp [State.noticesOf, h], by rw [h]⟩

theorem noticed {s t : State} (h : NoticesKept s t) {b : NoticeBody} (inbox : b.kind ≠ .faultInbox)
    (service : b.kind ≠ .serviceChanged) : t.Noticed b ↔ s.Noticed b :=
  noticed_congr h.outbound (h.pending _ inbox service)

end NoticesKept

theorem give_outbound (s : State) (b : NoticeBody) : (s.give b).link.outbound = s.link.outbound := by
  unfold State.give
  split <;> rfl

theorem noticesKept_give {s : State} {b : NoticeBody} (h : b.kind = .faultInbox ∨ b.kind = .serviceChanged) :
    NoticesKept s (s.give b) := by
  refine ⟨fun k inbox service => noticesOf_give ?_, give_outbound s b⟩
  rcases h with e | e
  · exact e ▸ inbox.symm
  · exact e ▸ service.symm

theorem noticed_give_of_ne {s : State} {b c : NoticeBody} (h : c.kind ≠ b.kind) : (s.give c).Noticed b ↔ s.Noticed b :=
  noticed_congr (give_outbound s c) (noticesOf_give h)

section Links
variable (s : State)

theorem deferAfterRefusal_link (n : Nat) (r : FaultReport) : (s.deferAfterRefusal n r).link = s.link := by
  unfold State.deferAfterRefusal
  dsimp only
  split <;> rfl

theorem onEvicted_link (e : TxEntry) : (s.onEvicted e).link = s.link := by
  unfold State.onEvicted
  split
  · rfl
  split
  · rfl
  · exact deferAfterRefusal_link s _ _
  · rfl

/-- R9: the handing of a frame gives no notice. -/
theorem handOwn_link (b : QueuedBody) : (s.handOwn b).1.link = s.link := by
  unfold State.handOwn
  split
  · rfl
  split
  · rfl
  split
  · rfl
  split
  · split
    · rfl
    · exact onEvicted_link _ _
  · rfl

theorem queueStatus_link : s.queueStatus.link = s.link := by
  unfold State.queueStatus
  split
  · exact handOwn_link s _
  · rfl

theorem handCopy_link (b : QueuedBody) (o q h : Nat) (r : Bool) (c : FrameClass) :
    (s.handCopy b o q h r c).link = s.link := by
  unfold State.handCopy
  split <;> rfl

end Links

section Kept
variable (s : State)

theorem noticesKept_setFaults (v : FaultBlock) : NoticesKept s (s.setFaults v) := .of_link rfl

theorem noticesKept_toInbox (r : FaultReport) (q : Option Nat) (own : Bool) : NoticesKept s (s.toInbox r q own).1 := by
  unfold State.toInbox
  dsimp only
  split
  · exact (noticesKept_setFaults s _).trans (noticesKept_give (.inl rfl))
  · exact .of_link rfl

theorem noticesKept_dealReport (n : Nat) (r : FaultReport) : NoticesKept s (s.dealReport n r) := by
  unfold State.dealReport
  dsimp only
  split
  · have entered := noticesKept_toInbox s { r with origin := s.own } none true
    split
    · exact entered.trans (.of_link rfl)
    · exact entered
  split
  · have handed := handOwn_link s (.fault n { r with origin := s.own })
    split
    · next e =>
      rw [e] at handed
      exact .of_link ((deferAfterRefusal_link _ _ _).trans handed)
    · next e =>
      rw [e] at handed
      exact .of_link handed
  · exact .of_link rfl

theorem noticesKept_makeReport (k : FaultKind) (t : Transition) : NoticesKept s (s.makeReport k t) :=
  (noticesKept_setFaults s _).trans (noticesKept_dealReport _ _ _)

theorem noticesKept_derive (c : ServiceCause) : NoticesKept s (s.derive c) := by
  unfold State.derive
  dsimp only
  split
  · exact .refl s
  · have given : NoticesKept (s.setFaults { s.faults with service := s.derivedService })
        ((s.setFaults { s.faults with service := s.derivedService }).give
          (.serviceChanged s.faults.service s.derivedService s.cashBarred s.cardBarred c)) := noticesKept_give (.inr rfl)
    exact ((noticesKept_setFaults s _).trans given).trans (.of_link (queueStatus_link _))

theorem noticesKept_deriveIf (loud : Bool) (c : ServiceCause) : NoticesKept s (s.deriveIf loud c) := by
  unfold State.deriveIf
  split
  · exact noticesKept_derive s c
  · exact .refl s

theorem noticesKept_raiseIf (loud : Bool) (k : FaultKind) (d : Nat) : NoticesKept s (s.raiseIf loud k d) := by
  have entered (e : FaultEntry) : NoticesKept s (s.setFaultEntry k e) := .of_link rfl
  unfold State.raiseIf
  dsimp only
  split
  · exact (entered _).trans (noticesKept_makeReport _ _ _)
  · exact ((entered _).trans (noticesKept_makeReport _ _ _)).trans (noticesKept_deriveIf _ _ _)

theorem noticesKept_clearIf (loud : Bool) (k : FaultKind) : NoticesKept s (s.clearIf loud k) := by
  have entered (e : FaultEntry) : NoticesKept s (s.setFaultEntry k e) := .of_link rfl
  unfold State.clearIf
  dsimp only
  split
  · exact ((entered _).trans (noticesKept_makeReport _ _ _)).trans (noticesKept_deriveIf _ _ _)
  · exact .refl s

theorem noticesKept_raise (k : FaultKind) (d : Nat) : NoticesKept s (s.raise k d) := noticesKept_raiseIf s true k d

theorem noticesKept_clear (k : FaultKind) : NoticesKept s (s.clear k) := noticesKept_clearIf s true k

theorem noticesKept_offerOne (d : MadeReport) : NoticesKept s (s.offerOne d).1 := by
  unfold State.offerOne
  dsimp only
  split
  · have entered := noticesKept_toInbox s { d.report with origin := s.own } none true
    split
    · exact entered.trans (.of_link rfl)
    · exact entered.trans (.of_link rfl)
  · have handed := handOwn_link s (.fault d.made { d.report with origin := s.own })
    split
    · next e =>
      rw [e] at handed
      exact .of_link handed
    · next e =>
      rw [e] at handed
      exact .of_link handed

theorem noticesKept_offerAll (ds : List MadeReport) : ∀ s : State, NoticesKept s (s.offerAll ds) := by
  induction ds with
  | nil => exact .refl
  | cons d ds ih =>
    intro s
    have offered := noticesKept_offerOne s d
    unfold State.offerAll
    split
    · next e =>
      rw [e] at offered
      exact offered.trans (ih _)
    · next e =>
      rw [e] at offered
      exact offered

theorem noticesKept_offerDeferred : NoticesKept s s.offerDeferred := noticesKept_offerAll _ s

theorem noticesKept_reconsiderClocks : NoticesKept s s.reconsiderClocks := by
  unfold State.reconsiderClocks
  split
  · split
    · exact .refl s
    · exact noticesKept_raise s _ _
  · exact noticesKept_clear s _

theorem noticesKept_reconsiderTariffIf (loud : Bool) : NoticesKept s (s.reconsiderTariffIf loud) := by
  unfold State.reconsiderTariffIf
  split
  · exact noticesKept_clearIf s _ _
  · split
    · exact .refl s
    · exact noticesKept_raiseIf s _ _ _

end Kept

/-! ### What the request made of the link stands through reports -/

theorem SameButReports.level {s t : State} (h : SameButReports s t) (k : NoticeKind) : t.link.level k = s.link.level k := by
  obtain ⟨ns, e⟩ := h.link
  simp [MachineLink.level, e]

end Sys2Proof.Machine

/-! PROOF. The cash unit's lines, timers and rounds: O31 to O34, O36, O37 and O40, with the fill band of R129. -/

namespace Sys2Proof.Machine

/-! ### What a raise leaves -/

/-- R148: from s to t the entry of a kind was raised with a detail. -/
structure Raised (s t : State) (k : FaultKind) (d : Nat) : Prop where
  detail : (t.faultEntry k).detail = d % 65536
  raisedAt : (t.faultEntry k).raisedAt = some s.ret.clock.time
  occurrences : (t.faultEntry k).occurrences = min ((s.faultEntry k).occurrences + 1) 255
  active : isEventKind k = false → t.faultActive k = true
  refresh : isEventKind k = false → (t.faultEntry k).refresh = some 600

theorem raised_of_core {s t : State} {k : FaultKind} {d : Nat}
    (h : (t.faultEntry k).core = (s.raisedEntry k d).core) : Raised s t k d := by
  have entry {α : Type} (f : FaultEntry → α) : f (t.faultEntry k).core = f (s.raisedEntry k d).core := congrArg f h
  refine ⟨(entry FaultEntry.detail).trans ?_, (entry FaultEntry.raisedAt).trans ?_,
    (entry FaultEntry.occurrences).trans ?_, fun condition => (entry FaultEntry.active).trans ?_,
    fun condition => (entry FaultEntry.refresh).trans ?_⟩
  · unfold State.raisedEntry; dsimp only; split <;> rfl
  · unfold State.raisedEntry; dsimp only; split <;> rfl
  · unfold State.raisedEntry; dsimp only; split <;> rfl
  · simp [State.raisedEntry, condition]
  · simp [State.raisedEntry, condition]

theorem raised_raiseIf {s : State} {k : FaultKind} (h : faultCode k < s.faults.table.length) (loud : Bool) (d : Nat) :
    Raised s (s.raiseIf loud k d) k d := raised_of_core (raiseIf_entry h loud d)

theorem raised_raise {s : State} (h : s.faults.table.length = 22) (k : FaultKind) (d : Nat) : Raised s (s.raise k d) k d :=
  raised_raiseIf (h ▸ faultCode_lt k) true d

/-- What a raise left stands while the entry keeps its core. -/
theorem Raised.of_core {s t u : State} {k : FaultKind} {d : Nat} (h : Raised s t k d)
    (core : (u.faultEntry k).core = (t.faultEntry k).core) : Raised s u k d := by
  have entry {α : Type} (f : FaultEntry → α) : f (u.faultEntry k).core = f (t.faultEntry k).core := congrArg f core
  exact ⟨(entry FaultEntry.detail).trans h.detail, (entry FaultEntry.raisedAt).trans h.raisedAt,
    (entry FaultEntry.occurrences).trans h.occurrences, fun c => (entry FaultEntry.active).trans (h.active c),
    fun c => (entry FaultEntry.refresh).trans (h.refresh c)⟩

theorem SameButReports.ret_eq {s t : State} (h : SameButReports s t) : t.ret = { s.ret with seq := t.ret.seq } := by
  obtain ⟨q, e⟩ := h.ret
  rw [e]

theorem SameButReports.round {s t : State} (h : SameButReports s t) : t.ret.round = s.ret.round := by rw [h.ret_eq]

/-- R166: a notice given changes the pending notices alone. -/
theorem give_eq (s : State) (b : NoticeBody) : ∃ ns, s.give b = s.setLink { s.link with notices := ns } := by
  unfold State.give
  split
  · exact ⟨s.link.notices, rfl⟩
  · exact ⟨_, rfl⟩

/-! ### The fill band (R129) -/

/-- From s to t nothing changed that the finding of the fill band reads or sets. -/
structure BandSame (s t : State) : Prop where
  capacity : t.cash.capacity = s.cash.capacity
  band : t.cash.band = s.cash.band
  cores : ∀ k, k = .boxNearFull ∨ k = .boxFull → (t.faultEntry k).core = (s.faultEntry k).core
  table : t.faults.table.length = s.faults.table.length
  time : t.ret.clock.time = s.ret.clock.time
  level : t.link.level .boxBand = s.link.level .boxBand
  noticed : ∀ b : NoticeBody, b.kind = .boxBand → (t.Noticed b ↔ s.Noticed b)

namespace BandSame

theorem refl (s : State) : BandSame s s := ⟨rfl, rfl, fun _ _ => rfl, rfl, rfl, rfl, fun _ _ => Iff.rfl⟩

theorem trans {s t u : State} (h : BandSame s t) (k : BandSame t u) : BandSame s u :=
  ⟨k.capacity.trans h.capacity, k.band.trans h.band, fun x hx => (k.cores x hx).trans (h.cores x hx),
    k.table.trans h.table, k.time.trans h.time, k.level.trans h.level,
    fun b hb => (k.noticed b hb).trans (h.noticed b hb)⟩

end BandSame

theorem bandSame_of_cores {s t : State} (h : SameCores s t) (n : NoticesKept s t) : BandSame s t :=
  ⟨by rw [h.cash], by rw [h.cash], fun k _ => h.entry k, h.tableLength, by rw [h.clock], h.level _,
    fun b e => n.noticed (by rw [e]; nofun) (by rw [e]; nofun)⟩

theorem bandSame_give {s : State} {b : NoticeBody} (h : b.kind ≠ .boxBand) : BandSame s (s.give b) :=
  have same := onlyReports_give s b
  ⟨by rw [same.cash], by rw [same.cash], fun k _ => same.entry k, same.tableLength, by rw [same.clock],
    same.level _, fun _ e => noticed_give_of_ne fun x => h (x.trans e)⟩

theorem bandSame_settle (s : State) : BandSame s s.settle :=
  ⟨rfl, rfl, fun _ _ => rfl, rfl, rfl, by simp [MachineLink.level, settle_running], fun _ _ => noticed_settle⟩

theorem bandSame_respond (s : State) (code : Nat) (a : Answer) : BandSame s (s.respond code a) :=
  ⟨rfl, rfl, fun _ _ => rfl, rfl, rfl, rfl, fun _ _ => Iff.rfl⟩

theorem bandSame_handOwn (s : State) (b : QueuedBody) : BandSame s (s.handOwn b).1 :=
  bandSame_of_cores (onlyReports_handOwn s b).toSameCores (.of_link (handOwn_link s b))

theorem bandSame_raise_other {s : State} {k : FaultKind} (h : k ≠ .boxNearFull ∧ k ≠ .boxFull) (d : Nat) :
    BandSame s (s.raise k d) := by
  have same := sameBut_raise s k d
  refine ⟨by rw [same.cash], by rw [same.cash], fun j hj => raiseIf_entry_other ?_ s true d, raiseIf_tableLength s _ _ _,
    by rw [same.clock], same.level _, fun b e => (noticesKept_raise s k d).noticed (by rw [e]; nofun) (by rw [e]; nofun)⟩
  rintro rfl
  exact hj.elim (fun e => h.1 e) (fun e => h.2 e)

/-- R129: what the finding of the band is judged by may be read before and after steps that leave it alone. -/
theorem BandFound.congr {s s' t' t : State} {n : Nat} (f : BandFound s' t' n) (before : BandSame s s')
    (after : BandSame t' t) : BandFound s t n where
  unfound h := (after.band.trans (f.unfound (before.capacity.trans h))).trans before.band
  found c h := after.band.trans (f.found c (before.capacity.trans h))
  kept h := by
    obtain ⟨entries, notices⟩ := f.kept fun c hc => before.band.trans (h c (before.capacity.symm.trans hc))
    refine ⟨fun k hk => ?_, fun b hb given => (before.noticed b hb).1 (notices b hb ((after.noticed b hb).1 given))⟩
    obtain ⟨active, detail, raisedAt, clearedAt, occurrences⟩ := entries k hk
    have last {α : Type} (g : FaultEntry → α) : g (t.faultEntry k).core = g (t'.faultEntry k).core :=
      congrArg g (after.cores k hk)
    have first {α : Type} (g : FaultEntry → α) : g (s'.faultEntry k).core = g (s.faultEntry k).core :=
      congrArg g (before.cores k hk)
    exact ⟨((last FaultEntry.active).trans active).trans (first FaultEntry.active),
      ((last FaultEntry.detail).trans detail).trans (first FaultEntry.detail),
      ((last FaultEntry.raisedAt).trans raisedAt).trans (first FaultEntry.raisedAt),
      ((last FaultEntry.clearedAt).trans clearedAt).trans (first FaultEntry.clearedAt),
      ((last FaultEntry.occurrences).trans occurrences).trans (first FaultEntry.occurrences)⟩
  left c b k hc hb other hk := by
    have inactive := f.left c b k (before.capacity.trans hc) (before.band.trans hb) other hk
    have held : k = .boxNearFull ∨ k = .boxFull := by cases b <;> simp_all [bandFault]
    exact (congrArg FaultEntry.active (after.cores k held)).trans inactive
  entered c k hc other hk table := by
    have held : k = .boxNearFull ∨ k = .boxFull := by cases e : bandOf n c <;> simp_all [bandFault]
    obtain ⟨active, detail, raisedAt⟩ := f.entered c k (before.capacity.trans hc) (fun e => other (before.band.symm.trans e))
      hk (before.table.trans table)
    have last {α : Type} (g : FaultEntry → α) : g (t.faultEntry k).core = g (t'.faultEntry k).core :=
      congrArg g (after.cores k held)
    exact ⟨(last FaultEntry.active).trans active, (last FaultEntry.detail).trans detail,
      ((last FaultEntry.raisedAt).trans raisedAt).trans (by rw [before.time])⟩
  noticed c b hc hb other on := (after.noticed _ rfl).2
    (f.noticed c b (before.capacity.trans hc) (before.band.trans hb) other (before.level ▸ on))

theorem bandFault_condition {b : FillBand} {k : FaultKind} (h : bandFault b = some k) : isEventKind k = false := by
  cases b <;> simp [bandFault] at h <;> subst h <;> decide

theorem bandFault_injective {b c : FillBand} {k : FaultKind} (hb : bandFault b = some k) (hc : bandFault c = some k) :
    b = c := by
  have same : bandFault b = bandFault c := hb.trans hc.symm
  cases b <;> cases c <;> first | rfl | exact absurd same (by decide)

/-- R129: the condition of the band left is cleared. -/
def State.leaveBand (s : State) (old : Option FillBand) : State :=
  match old.bind bandFault with | some k => s.clear k | none => s

/-- R129: the condition of the band entered is raised. -/
def State.enterBand (s : State) (new : FillBand) (items : Nat) : State :=
  match bandFault new with | some k => s.raise k items | none => s

/-- R129: a change of the band found. -/
theorem findBand_of_change {s : State} {c : Nat} (capacity : s.cash.capacity = some c)
    (change : s.cash.band ≠ some (bandOf s.ret.box.items c)) :
    s.findBand =
      let new := bandOf s.ret.box.items c
      let t := ((s.setCash { s.cash with band := some new }).leaveBand s.cash.band).enterBand new s.ret.box.items
      if s.cash.band = none ∧ new = .normal then t else t.give (.boxBand s.cash.band new s.ret.box.items c) := by
  unfold State.findBand
  rw [capacity]
  exact if_neg change

theorem findBand_of_same {s : State} {c : Nat} (capacity : s.cash.capacity = some c)
    (same : s.cash.band = some (bandOf s.ret.box.items c)) : s.findBand = s := by
  unfold State.findBand
  rw [capacity]
  exact if_pos same

theorem findBand_of_no_capacity {s : State} (h : s.cash.capacity = none) : s.findBand = s := by
  unfold State.findBand
  rw [h]

section Band
variable (s : State) (old : Option FillBand) (new : FillBand) (items : Nat)

theorem sameBut_leaveBand : SameButReports s (s.leaveBand old) := by
  unfold State.leaveBand
  split
  · exact sameBut_clear s _
  · exact .refl s

theorem sameBut_enterBand : SameButReports s (s.enterBand new items) := by
  unfold State.enterBand
  split
  · exact sameBut_raise s _ _
  · exact .refl s

theorem leaveBand_tableLength : (s.leaveBand old).faults.table.length = s.faults.table.length := by
  unfold State.leaveBand
  split
  · exact clearIf_tableLength s _ _
  · rfl

theorem leaveBand_derived (h : s.Derived) : (s.leaveBand old).Derived := by
  unfold State.leaveBand
  split
  · exact clear_derived _ fun _ => h
  · exact h

theorem enterBand_derived (h : s.Derived) : (s.enterBand new items).Derived := by
  unfold State.enterBand
  split
  · exact raise_derived _ _ fun _ => h
  · exact h

end Band

/-- R152: the finding of the band leaves the service state derived. -/
theorem findBand_derived {s : State} (h : s.Derived) : s.findBand.Derived := by
  cases capacity : s.cash.capacity with
  | none => rw [findBand_of_no_capacity capacity]; exact h
  | some c =>
    by_cases same : s.cash.band = some (bandOf s.ret.box.items c)
    · rw [findBand_of_same capacity same]; exact h
    · rw [findBand_of_change capacity same]
      have start : (s.setCash { s.cash with band := some (bandOf s.ret.box.items c) }).Derived := h
      have entered := enterBand_derived _ (bandOf s.ret.box.items c) s.ret.box.items (leaveBand_derived _ s.cash.band start)
      dsimp only
      split
      · exact entered
      · exact (onlyReports_give _ _).derived entered

/-- R129: the finding of the band sets the band, and else reports and gives notice. -/
theorem sameBut_findBand {s : State} {c : Nat} (capacity : s.cash.capacity = some c) :
    SameButReports (s.setCash { s.cash with band := some (bandOf s.ret.box.items c) }) s.findBand := by
  by_cases same : s.cash.band = some (bandOf s.ret.box.items c)
  · rw [findBand_of_same capacity same, ← same]
    exact .refl s
  · rw [findBand_of_change capacity same]
    have entered := (sameBut_leaveBand (s.setCash { s.cash with band := some (bandOf s.ret.box.items c) })
      s.cash.band).trans (sameBut_enterBand _ (bandOf s.ret.box.items c) s.ret.box.items)
    dsimp only
    split
    · exact entered
    · exact entered.trans (sameBut_give _ _)

/-- R129: the finding of the band, at the item total of the box. -/
theorem bandFound_findBand (s : State) : BandFound s s.findBand s.ret.box.items := by
  cases capacity : s.cash.capacity with
  | none =>
    rw [findBand_of_no_capacity capacity]
    have no (c : Nat) (h : s.cash.capacity = some c) : False := by simp [capacity] at h
    exact ⟨fun _ => rfl, fun c h => (no c h).elim, fun _ => ⟨fun _ _ => ⟨rfl, rfl, rfl, rfl, rfl⟩, fun _ _ h => h⟩,
      fun c _ _ h => (no c h).elim, fun c _ h => (no c h).elim, fun c _ h => (no c h).elim⟩
  | some c =>
    have band := congrArg CashBlock.band (sameBut_findBand capacity).cash
    have only (d : Nat) (h : s.cash.capacity = some d) : c = d := Option.some.inj (capacity.symm.trans h)
    refine ⟨fun h => absurd (capacity.symm.trans h) nofun, fun d hd => ?found, fun h => ?kept,
      fun d b k hd held other fault => ?left, fun d k hd change fault table => ?entered,
      fun d b hd held other on => ?noticed⟩
    case found => exact only d hd ▸ band
    case kept =>
      rw [findBand_of_same capacity (h c capacity)]
      exact ⟨fun _ _ => ⟨rfl, rfl, rfl, rfl, rfl⟩, fun _ _ h => h⟩
    case left =>
      obtain rfl := only d hd
      have change : s.cash.band ≠ some (bandOf s.ret.box.items c) := by
        rw [held]
        exact fun e => other (Option.some.inj e)
      have cleared : ((s.setCash { s.cash with band := some (bandOf s.ret.box.items c) }).leaveBand
          s.cash.band).faultActive k = false := by
        rw [State.leaveBand, held, Option.bind_some, fault]
        exact clearIf_inactive _ _ _
      have stays : (((s.setCash { s.cash with band := some (bandOf s.ret.box.items c) }).leaveBand
          s.cash.band).enterBand (bandOf s.ret.box.items c) s.ret.box.items).faultActive k = false := by
        unfold State.enterBand
        split
        · next j hj =>
          have apart : k ≠ j := by
            rintro rfl
            exact other (bandFault_injective fault hj)
          exact (raiseIf_active_other apart _ _ _).trans cleared
        · exact cleared
      rw [findBand_of_change capacity change]
      dsimp only
      split
      · exact stays
      · exact ((onlyReports_give _ _).active k).trans stays
    case entered =>
      obtain rfl := only d hd
      have length : ((s.setCash { s.cash with band := some (bandOf s.ret.box.items c) }).leaveBand
          s.cash.band).faults.table.length = 22 := (leaveBand_tableLength _ _).trans table
      have time : ((s.setCash { s.cash with band := some (bandOf s.ret.box.items c) }).leaveBand
          s.cash.band).ret.clock = s.ret.clock := (sameBut_leaveBand _ _).clock
      have raised := raised_raise length k s.ret.box.items
      have entered : Raised ((s.setCash { s.cash with band := some (bandOf s.ret.box.items c) }).leaveBand s.cash.band)
          s.findBand k s.ret.box.items := by
        rw [findBand_of_change capacity change]
        dsimp only
        rw [State.enterBand, fault]
        dsimp only
        split
        · exact raised
        · exact raised.of_core ((onlyReports_give _ _).entry k)
      exact ⟨entered.active (bandFault_condition fault), entered.detail, by rw [entered.raisedAt, time]⟩
    case noticed =>
      obtain rfl := only d hd
      have change : s.cash.band ≠ some (bandOf s.ret.box.items c) := by
        rw [held]
        exact fun e => other (Option.some.inj e)
      rw [findBand_of_change capacity change]
      dsimp only
      rw [if_neg (by simp [held]), held]
      refine noticed_give ?_
      rw [((sameBut_leaveBand _ _).trans (sameBut_enterBand _ _ _)).level]
      exact on

/-! ### The door and the box (R132 to R135) -/

/-- R132: the door record after an opening. -/
def State.openedRecord (s : State) : DoorRecord :=
  let opened := { s.ret.door with
    doorOpen := true, openedAt := some s.now, openings := min (s.ret.door.openings + 1) 65535 }
  match s.cash.auth with
  | some a => { opened with latest := some .authorized, authorizedBy := some a.key }
  | none => { opened with latest := some .forced, authorizedBy := none, forcedOutstanding := true }

section Door
variable (s : State) (loud : Bool)

/-- R132: an opening writes the door record and starts the door timer, and else reports and gives notice. -/
theorem sameBut_openDoor : SameButReports ((s.setDoor s.openedRecord).setCash { s.cash with doorTimer := some 600 })
    (s.openDoor loud) := by
  unfold State.openDoor
  dsimp only
  refine .trans ?_ (sameBut_give _ _)
  have derived := sameBut_deriveIf ((s.setDoor s.openedRecord).setCash { s.cash with doorTimer := some 600 }) loud
    (.compartment .opening)
  split
  · exact derived.trans (sameBut_raiseIf _ _ _ _)
  · exact derived

theorem openDoor_derived : (s.openDoor true).Derived := by
  unfold State.openDoor
  dsimp only
  refine (onlyReports_give _ _).derived ?_
  split
  · exact raise_derived _ _ nofun
  · exact derive_derived _ _

/-- R132: an opening without an authorization raises FORCED DOOR. -/
theorem raised_openDoor (forced : s.cash.auth = none) (table : s.faults.table.length = 22) :
    (s.openDoor loud).faultActive .forcedDoor = true := by
  unfold State.openDoor
  dsimp only
  rw [if_pos (by simp [forced])]
  refine ((onlyReports_give _ _).active _).trans ?_
  refine (raised_raiseIf ?_ _ _).active rfl
  rw [(sameCores_deriveIf _ _ _).tableLength]
  exact table ▸ faultCode_lt .forcedDoor

/-- R133: a closing of the door. -/
theorem sameBut_closeDoor : SameButReports ((s.setDoor { s.ret.door with doorOpen := false, closedAt := some s.now }).setCash
      { s.cash with doorTimer := none, auth := if s.ret.door.boxAbsent then s.cash.auth else none })
    (s.closeDoor loud) := by
  unfold State.closeDoor
  dsimp only
  refine .trans ?_ (sameBut_give _ _)
  have cleared := (sameBut_deriveIf ((s.setDoor { s.ret.door with doorOpen := false, closedAt := some s.now }).setCash
    { s.cash with doorTimer := none }) loud (.compartment .closing)).trans (sameBut_clearIf _ loud .doorOpenLong)
  split
  · exact cleared
  · exact { cleared with cash := by simp [State.consume, cleared.cash] }

theorem closeDoor_derived : (s.closeDoor true).Derived := by
  unfold State.closeDoor
  dsimp only
  refine (onlyReports_give _ _).derived ?_
  have cleared := clear_derived (s := (((s.setDoor { s.ret.door with doorOpen := false, closedAt := some s.now }).setCash
    { s.cash with doorTimer := none }).derive (.compartment .closing))) .doorOpenLong fun _ => derive_derived _ _
  split
  · exact cleared
  · exact cleared

theorem closeDoor_inactive : (s.closeDoor loud).faultActive .doorOpenLong = false := by
  unfold State.closeDoor
  dsimp only
  refine ((onlyReports_give _ _).active _).trans ?_
  split
  · exact clearIf_inactive _ _ _
  · exact clearIf_inactive _ _ _

/-- R135: an insertion of the box. -/
theorem sameBut_insertBox : SameButReports ((s.setDoor { s.ret.door with boxAbsent := false }).setCash
      { s.cash with auth := if s.ret.door.doorOpen then s.cash.auth else none }) (s.insertBox loud) := by
  unfold State.insertBox
  dsimp only
  refine .trans ?_ (sameBut_give _ _)
  have derived := sameBut_deriveIf (s.setDoor { s.ret.door with boxAbsent := false }) loud (.compartment .insertion)
  split
  · exact derived
  · exact { derived with cash := by simp [State.consume, derived.cash] }

theorem insertBox_derived : (s.insertBox true).Derived := by
  unfold State.insertBox
  dsimp only
  refine (onlyReports_give _ _).derived ?_
  have derived := derive_derived (s.setDoor { s.ret.door with boxAbsent := false }) (.compartment .insertion)
  split
  · exact derived
  · exact derived

end Door

/-- Settles O31. -/
theorem doorOpeningRecorded : Obligations.DoorOpeningRecorded := by
  intro s power closed table
  let u := s.setSupply { s.supply with doorOpen := true }
  have line : s.doorLine true = u.openDoor true := by simp [State.doorLine, closed, power, u]
  have same := sameBut_openDoor u true
  have door : (u.openDoor true).ret.door = u.openedRecord := same.door
  have time : u.now = s.ret.clock.time := rfl
  refine ⟨(u.openDoor true).settle, congrArg (fun t : State => Host.Outcome.next t.settle) line, same.supply, same.cash,
    ?_, same.box, same.clock, same.permits, ?_, ?_, ?_, ?_, fun a auth => ?_, fun forced => ⟨?_, ?_, ?_, ?_⟩⟩
  · refine (openDoor_derived u).trans ((derivedService_hold_iff _).2 ?_)
    simp only [State.compartmentOpen, door, State.openedRecord]
    split <;> rfl
  · rw [settle_ret, door, State.openedRecord]; split <;> rfl
  · rw [settle_ret, door, State.openedRecord]; split <;> rfl
  · rw [settle_ret, door, State.openedRecord]; split <;> rfl
  · rw [settle_ret, door, State.openedRecord]; split <;> rfl
  · rw [settle_ret, door, State.openedRecord, show u.cash.auth = some a from auth]
    exact ⟨rfl, rfl, rfl⟩
  · rw [settle_ret, door, State.openedRecord, show u.cash.auth = none from forced]
  · rw [settle_ret, door, State.openedRecord, show u.cash.auth = none from forced]
  · rw [settle_ret, door, State.openedRecord, show u.cash.auth = none from forced]
  · exact raised_openDoor u true forced table

/-- Settles O32. -/
theorem compartmentCloses : Obligations.CompartmentCloses := by
  refine ⟨fun s power isOpen => ?door, fun s power absent => ?box⟩
  case door =>
    let u := s.setSupply { s.supply with doorOpen := false }
    have line : s.doorLine false = u.closeDoor true := by simp [State.doorLine, isOpen, power, u]
    have same := sameBut_closeDoor u true
    exact ⟨(u.closeDoor true).settle, congrArg (fun t : State => Host.Outcome.next t.settle) line, same.supply,
      same.door, same.cash, closeDoor_inactive u true, same.box, same.clock, same.permits, closeDoor_derived u⟩
  case box =>
    let u := s.setSupply { s.supply with boxAbsent := false }
    have line : s.boxLine false = u.insertBox true := by simp [State.boxLine, absent, power, u]
    have same := sameBut_insertBox u true
    exact ⟨(u.insertBox true).settle, congrArg (fun t : State => Host.Outcome.next t.settle) line, same.supply,
      same.door, same.box, by rw [settle_ret, same.ret_eq]; rfl, same.cash, same.clock, same.permits,
      insertBox_derived u⟩

end Sys2Proof.Machine

/-! PROOF. The box removed, the timers of cash and faults, and rounds opened and closed: O33, O34, O36, O37 and O40. -/

namespace Sys2Proof.Machine

/-! ### The removal of the box (R134) -/

/-- R134: the state that a removal leaves before the compartment condition is derived. -/
def State.boxTaken (s : State) (cause : CollectionCause) : State :=
  (s.setRet { s.ret with
      box := BoxCounters.zero (s.cash.waitingSet.getD s.ret.box.denominations)
      lastCollection := some (s.collection cause)
      door := { s.ret.door with boxAbsent := true }
      round := s.filed (s.collection cause) }).setCash { s.cash with waitingSet := none }

theorem removeBox_eq (s : State) (loud : Bool) (cause : CollectionCause) :
    s.removeBox loud cause =
      let t := ((s.boxTaken cause).deriveIf loud (.compartment .removal)).findBand
      (if (s.collection cause).round.isSome then t.handEntry else t).giveDoor .removal (some (s.collection cause)) := rfl

theorem onlyReports_handEntry (s : State) : OnlyReports s s.handEntry := by
  unfold State.handEntry
  split
  · exact .refl s
  split
  · split
    · exact onlyReports_handOwn s _
    · exact .refl s
  · exact .refl s

theorem handEntry_link (s : State) : s.handEntry.link = s.link := by
  unfold State.handEntry
  split
  · rfl
  split
  · split
    · exact handOwn_link s _
    · rfl
  · rfl

/-- R134: after the band is found, a removal hands the round entry and gives DOOR. -/
theorem onlyReports_removed (t : State) (p : Prop) [Decidable p] (c : Option Collection) :
    OnlyReports t ((if p then t.handEntry else t).giveDoor .removal c) := by
  refine .trans ?_ (onlyReports_give _ _)
  split
  · exact onlyReports_handEntry t
  · exact .refl t

theorem bandSame_removed (t : State) (p : Prop) [Decidable p] (c : Option Collection) :
    BandSame t ((if p then t.handEntry else t).giveDoor .removal c) := by
  refine .trans ?_ (bandSame_give nofun)
  split
  · exact bandSame_of_cores (onlyReports_handEntry t).toSameCores (.of_link (handEntry_link t))
  · exact .refl t

theorem bandSame_boxTaken (s : State) (cause : CollectionCause) : BandSame s (s.boxTaken cause) :=
  ⟨rfl, rfl, fun _ _ => rfl, rfl, rfl, rfl, fun _ _ => Iff.rfl⟩

theorem bandSame_deriveIf (s : State) (loud : Bool) (c : ServiceCause) : BandSame s (s.deriveIf loud c) :=
  bandSame_of_cores (sameCores_deriveIf s loud c) (noticesKept_deriveIf s loud c)

/-- R129, R134: a removal finds the band at 0 items. -/
theorem bandFound_removeBox (s : State) (loud : Bool) (cause : CollectionCause) : BandFound s (s.removeBox loud cause) 0 := by
  have empty : ((s.boxTaken cause).deriveIf loud (.compartment .removal)).ret.box.items = 0 := by
    rw [(sameBut_deriveIf _ _ _).box]
    rfl
  have found := bandFound_findBand ((s.boxTaken cause).deriveIf loud (.compartment .removal))
  rw [empty] at found
  exact found.congr ((bandSame_boxTaken s cause).trans (bandSame_deriveIf _ _ _)) (bandSame_removed _ _ _)

/-- R129: the finding of the band changes the band alone, reports and gives notice. -/
theorem findBand_frame (s : State) : ∃ b, SameButReports (s.setCash { s.cash with band := b }) s.findBand := by
  cases capacity : s.cash.capacity with
  | none =>
    rw [findBand_of_no_capacity capacity]
    exact ⟨s.cash.band, .refl s⟩
  | some c => exact ⟨_, sameBut_findBand capacity⟩

/-- R134: what a removal leaves but for the band, reports and notices. -/
theorem removeBox_frame (s : State) (loud : Bool) (cause : CollectionCause) :
    ∃ b, SameButReports ((s.boxTaken cause).setCash { (s.boxTaken cause).cash with band := b }) (s.removeBox loud cause) := by
  obtain ⟨b, found⟩ := findBand_frame ((s.boxTaken cause).deriveIf loud (.compartment .removal))
  have derived := sameBut_deriveIf (s.boxTaken cause) loud (.compartment .removal)
  have base : SameButReports ((s.boxTaken cause).setCash { (s.boxTaken cause).cash with band := b })
      (((s.boxTaken cause).deriveIf loud (.compartment .removal)).setCash
        { ((s.boxTaken cause).deriveIf loud (.compartment .removal)).cash with band := b }) :=
    { derived with cash := by rw [setCash_cash, derived.cash]; rfl }
  exact ⟨b, (base.trans found).trans (onlyReports_removed _ _ _).toSameButReports⟩

theorem removeBox_derived (s : State) (cause : CollectionCause) : (s.removeBox true cause).Derived :=
  (onlyReports_removed _ _ _).derived (findBand_derived (derive_derived _ _))

/-- Settles O33. -/
theorem boxRemovalLatches : Obligations.BoxRemovalLatches := by
  intro s power present
  let u := s.setSupply { s.supply with boxAbsent := true }
  have line : s.boxLine true = u.removeBox true .removed := by simp [State.boxLine, present, power, u]
  obtain ⟨b, same⟩ := removeBox_frame u true .removed
  have ret := same.ret_eq
  have supply : BandSame s u := ⟨rfl, rfl, fun _ _ => rfl, rfl, rfl, rfl, fun _ _ => Iff.rfl⟩
  refine ⟨(u.removeBox true .removed).settle, congrArg (fun t : State => Host.Outcome.next t.settle) line, same.supply,
    ?_, same.box, congrArg CashBlock.waitingSet same.cash, same.door, ?_, same.round, same.clock, ?_, same.permits,
    (bandFound_removeBox u true .removed).congr supply (bandSame_settle _)⟩
  · rw [settle_ret, ret]; rfl
  · refine (removeBox_derived u .removed).trans ((derivedService_hold_iff _).2 ?_)
    simp only [State.compartmentOpen, same.door]
    exact Bool.or_true _
  · rw [settle_ret, ret]; rfl

/-! ### Timers of the cash unit and of the fault unit -/

/-- Settles O34. -/
theorem cashTimersExpire : Obligations.CashTimersExpire := by
  refine ⟨fun s power => congrArg Host.Outcome.next (whilePowered_of_power power _),
    fun s opened power running table door earlier => ?door⟩
  let u := s.setCash { s.cash with doorTimer := none }
  have expired : s.doorTimerOver = u.raise .doorOpenLong ((s.ret.clock.time - opened) / 60) := by
    have timer : s.cash.doorTimer.isNone = false := by simpa [Option.isSome_iff_ne_none] using running
    simp [State.doorTimerOver, timer, door, minutesOpen, State.now, earlier, u]
  have same := sameBut_raise u .doorOpenLong ((s.ret.clock.time - opened) / 60)
  have raised : Raised u (u.raise .doorOpenLong ((s.ret.clock.time - opened) / 60)) .doorOpenLong _ :=
    raised_raise (s := u) table .doorOpenLong _
  refine ⟨(u.raise .doorOpenLong ((s.ret.clock.time - opened) / 60)).settle, ?_, same.cash, raised.active rfl,
    raised.detail, same.door, same.box, same.permits⟩
  exact congrArg Host.Outcome.next ((whilePowered_of_power power _).trans (by rw [expired]))

/-- Settles O40. -/
theorem faultTimersExpire : Obligations.FaultTimersExpire := by
  refine ⟨fun s r power running timer table => ⟨fun first => ?first, fun second => ?second⟩,
    fun s k power active timer => ?refresh⟩
  case first =>
    obtain ⟨left, timer⟩ := Option.isSome_iff_exists.1 timer
    let u := s.setFaults { s.faults with liveness := some r.config.liveness, quiet := 1 }
    have expired : s.livenessExpiry = u.give (.hostQuiet r.config.liveness) := by
      simp [State.livenessExpiry, timer, running, first, u]
    obtain ⟨ns, given⟩ := give_eq u (.hostQuiet r.config.liveness)
    refine ⟨s.livenessExpiry.settle, congrArg Host.Outcome.next (whilePowered_of_power power _), ?_⟩
    rw [expired, given]
    exact ⟨rfl, rfl, rfl, rfl, rfl⟩
  case second =>
    obtain ⟨left, timer⟩ := Option.isSome_iff_exists.1 timer
    let u := s.setFaults { s.faults with liveness := none, quiet := 2 }
    have expired : s.livenessExpiry = u.raise .hostSilent r.config.liveness := by
      simp [State.livenessExpiry, timer, running, second, u]
    have same := sameBut_raise u .hostSilent r.config.liveness
    have raised : Raised u (u.raise .hostSilent r.config.liveness) .hostSilent _ :=
      raised_raise (s := u) table .hostSilent _
    refine ⟨s.livenessExpiry.settle, congrArg Host.Outcome.next (whilePowered_of_power power _), ?_⟩
    rw [expired]
    exact ⟨same.quiet, same.liveness, raised.active rfl, raised.detail, raise_derived _ _ nofun, same.cash, same.permits⟩
  case refresh =>
    have entry : (s.faultEntry k).active = true := active
    let e := { s.faultEntry k with refresh := some 600 }
    have expired : s.refreshExpiry k = (s.setFaultEntry k e).makeReport k .refresh := by
      simp [State.refreshExpiry, entry, timer, e]
    have made := (onlyReports_makeReport (s.setFaultEntry k e) k .refresh)
    have set : (s.setFaultEntry k e).faultEntry k = e := faultEntry_setFaultEntry_self e (lt_of_faultActive active)
    have core {α : Type} (f : FaultEntry → α) : f (((s.setFaultEntry k e).makeReport k .refresh).faultEntry k).core =
        f e.core := by rw [made.entry, set]
    have same := (sameBut_setFaultEntry s k e).trans made.toSameButReports
    refine ⟨(s.refreshExpiry k).settle, congrArg Host.Outcome.next (whilePowered_of_power power _), ?_⟩
    rw [expired]
    exact ⟨core FaultEntry.refresh, (core FaultEntry.active).trans active, core FaultEntry.occurrences, made.service,
      same.permits, same.cash, same.box⟩

/-! ### ROUND OPEN and ROUND CLOSE (R131, R141, R144) -/

/-- R131, R137: the state of an authorization before FORCED DOOR is cleared. -/
def State.authorized (s : State) (key : Nat) : State :=
  let u := s.setCash { s.cash with auth := some { key, left := 900 } }
  if s.compartmentOpen then u else u.setDoor { s.ret.door with forcedOutstanding := false }

theorem sameBut_authorize (s : State) (key : Nat) : SameButReports (s.authorized key) (s.authorize key) := by
  unfold State.authorized State.authorize
  dsimp only
  split
  · exact .refl _
  · exact sameBut_clear _ _

theorem authorize_inactive {s : State} (key : Nat) (closed : s.compartmentOpen = false) :
    (s.authorize key).faultActive .forcedDoor = false := by
  unfold State.authorize
  simp only [closed, Bool.false_eq_true, if_false]
  exact clearIf_inactive _ _ _

theorem onlyReports_giveRound (s : State) (c : RoundCause) : OnlyReports s (s.giveRound c) := by
  unfold State.giveRound
  split
  · exact .refl s
  · exact onlyReports_give s _

theorem onlyReports_handThenGive (s : State) (b : QueuedBody) (c : RoundCause) :
    OnlyReports s ((s.handOwn b).1.giveRound c) := (onlyReports_handOwn s b).trans (onlyReports_giveRound _ c)

theorem filter_open_of_closed {s : State} (h : ∀ x, s.ret.round = some x → x.isOpen = false) :
    s.ret.round.filter Round.isOpen = none := by
  cases e : s.ret.round with
  | none => rfl
  | some x => simp [h x e]

/-- Settles O36. -/
theorem roundOpenAuthorizes : Obligations.RoundOpenAuthorizes := by
  intro s r key id free
  refine ⟨fun zero => ?bad, fun keyed identified => ?good⟩
  case bad =>
    have handled : reqRoundOpen key id (s.taking r (.roundOpen key id)) = (s.taking r (.roundOpen key id), .bad) :=
      if_pos zero
    exact answered_without_effect (q := .roundOpen key id) free nofun (congrArg atOnce handled)
  let u := s.taking r (.roundOpen key id)
  have handled : reqRoundOpen key id u = (u.authorize key).openOrJoin id := if_neg (by simp [keyed, identified])
  have step : exec (.roundOpen key id) s =
      .next ((((u.authorize key).openOrJoin id).1).respond 14 ((u.authorize key).openOrJoin id).2).settle :=
    exec_commandOf_of_handle (q := .roundOpen key id) free nofun (congrArg atOnce handled)
  have authorized := sameBut_authorize u key
  have round : (u.authorize key).ret.round = s.ret.round := by
    rw [authorized.round, State.authorized]
    split <;> rfl
  have clock : (u.authorize key).ret.clock = s.ret.clock := by
    rw [authorized.clock, State.authorized]
    split <;> rfl
  have own : (u.authorize key).own = r.number := by
    rw [State.own, authorized.running, State.authorized]
    split
    · exact congrArg (fun x : Option Running => (x.map Running.number).getD 0) free.running
    · exact congrArg (fun x : Option Running => (x.map Running.number).getD 0) free.running
  obtain ⟨t, frame⟩ : ∃ v, OnlyReports ((u.authorize key).setRound v) ((u.authorize key).openOrJoin id).1 := by
    unfold State.openOrJoin
    split
    · exact ⟨(u.authorize key).ret.round, onlyReports_giveRound _ _⟩
    · exact ⟨_, onlyReports_handThenGive _ _ _⟩
  have cash : ((u.authorize key).openOrJoin id).1.cash = { s.cash with auth := some { key, left := 900 } } := by
    rw [frame.cash]
    refine authorized.cash.trans ?_
    rw [State.authorized]
    split <;> rfl
  have door : ((u.authorize key).openOrJoin id).1.ret.door = (u.authorized key).ret.door :=
    frame.door.trans authorized.door
  refine ⟨_, step, ?_, cash, fun closed => ⟨?_, ?_⟩, fun opened => ?_, ?_, ?_, ?_, fun x current isOpen => ?joined,
    fun none => ?opened⟩
  · exact (frame.walk.trans authorized.walk).trans ((by rw [State.authorized]; split <;> rfl : _ = s.walk).trans
      free.isOpen.walk)
  · have closed : u.compartmentOpen = false := closed
    rw [settle_ret, respond_ret, door, State.authorized, closed]
    rfl
  · exact (frame.active _).trans (authorize_inactive (s := u) key closed)
  · have opened : u.compartmentOpen = true := opened
    rw [settle_ret, respond_ret, door, State.authorized, opened]
    rfl
  · exact (frame.box.trans authorized.box).trans (by rw [State.authorized]; split <;> rfl)
  · exact frame.clock.trans clock
  · exact (frame.permits.trans authorized.permits).trans (by rw [State.authorized]; split <;> rfl)
  case joined =>
    have current : (u.authorize key).ret.round.filter Round.isOpen = some x := by rw [round, current]; simp [isOpen]
    have joins : (u.authorize key).openOrJoin id =
        ((u.authorize key).giveRound .joined, .done (.roundOpened .joined x.id x.collector 900)) := by
      unfold State.openOrJoin
      rw [current]
      rfl
    rw [joins]
    refine ⟨?_, answered_respond_settle _ _ _⟩
    rw [settle_ret, respond_ret, (onlyReports_giveRound _ _).round, round]
    assumption
  case opened =>
    have current : (u.authorize key).ret.round.filter Round.isOpen = Option.none := by
      rw [round]
      exact filter_open_of_closed none
    have now : (u.authorize key).now = s.ret.clock.time := congrArg Clock.time clock
    have opens : ∃ v, OnlyReports ((u.authorize key).setRound (some
          (Round.mk { time := s.ret.clock.time, station := r.number } (some id) true [] Option.none))) v ∧
        (u.authorize key).openOrJoin id =
          (v, .done (.roundOpened .opened { time := s.ret.clock.time, station := r.number } (some id) 900)) := by
      unfold State.openOrJoin
      rw [current]
      dsimp only
      rw [now, own]
      exact ⟨_, onlyReports_handThenGive _ _ _, rfl⟩
    obtain ⟨v, kept, e⟩ := opens
    rw [e]
    exact ⟨kept.round, answered_respond_settle _ _ _⟩

/-- Settles O37. -/
theorem roundCloseAndRead : Obligations.RoundCloseAndRead := by
  intro s r free
  refine ⟨fun x current isOpen => ?closes, fun none => ?refused, answered_without_effect (q := .roundRead) free nofun rfl⟩
  case closes =>
    let u := s.taking r .roundClose
    let v := (((u.setRound (some { x with isOpen := false })).handOwn (.roundClose { id := x.id })).1).giveRound .closed
    have open_ : u.ret.round.filter Round.isOpen = some x := by
      have : u.ret.round = some x := current
      rw [this]
      simp [isOpen]
    have handled : reqRoundClose u = (v, .done (.roundClosed x.id)) := by
      unfold reqRoundClose
      rw [open_]
    have kept : OnlyReports (u.setRound (some { x with isOpen := false })) v := onlyReports_handThenGive _ _ _
    exact ⟨_, exec_commandOf_of_handle (q := .roundClose) free nofun (congrArg atOnce handled), kept.round,
      kept.walk.trans free.isOpen.walk, answered_respond_settle _ _ _, kept.cash, kept.door, kept.box, kept.permits⟩
  case refused =>
    have closed : (s.taking r .roundClose).ret.round.filter Round.isOpen = Option.none := filter_open_of_closed none
    have handled : reqRoundClose (s.taking r .roundClose) = (s.taking r .roundClose, .refuse .noRound) := by
      unfold reqRoundClose
      rw [closed]
    exact answered_without_effect (q := .roundClose) free nofun (congrArg atOnce handled)

end Sys2Proof.Machine

/-! PROOF. Permits: the handing of own frames, the block list's hit, and the claim in flight: O21, O26, O28, O29 and O30. -/

namespace Sys2Proof.Machine

/-! ### An own frame handed (R9, R10, R24) -/

section HandOwn
variable {s : State} {r : Running} {b : QueuedBody}

theorem handOwn_of_local (running : s.link.running = some r) (inLocal : r.number = 0) : s.handOwn b = (s, .completed) := by
  simp [State.handOwn, running, inLocal]

theorem handOwn_of_room (running : s.link.running = some r) (onChannel : r.number ≠ 0)
    (room : s.chan.queue.length < 16) : s.handOwn b = s.admitOwn b := by
  simp [State.handOwn, running, onChannel, room]

theorem handOwn_of_victim {v : TxEntry} (running : s.link.running = some r) (onChannel : r.number ≠ 0)
    (full : 16 ≤ s.chan.queue.length) (high : b.cls = .urgent ∨ b.cls = .claim) (gives : victim s.chan.queue = some v) :
    s.handOwn b = ((s.setQueue (s.chan.queue.erase v)).onEvicted v).admitOwn b := by
  simp [State.handOwn, running, onChannel, Nat.not_lt.2 full, high, gives]

theorem handOwn_of_no_victim (running : s.link.running = some r) (onChannel : r.number ≠ 0)
    (full : 16 ≤ s.chan.queue.length) (high : b.cls = .urgent ∨ b.cls = .claim) (none : victim s.chan.queue = none) :
    s.handOwn b = (s, .refused) := by
  simp [State.handOwn, running, onChannel, Nat.not_lt.2 full, high, none]

theorem handOwn_of_low_class (running : s.link.running = some r) (onChannel : r.number ≠ 0)
    (full : 16 ≤ s.chan.queue.length) (low : b.cls = .record ∨ b.cls = .bulk) : s.handOwn b = (s, .refused) := by
  have notHigh : ¬ (b.cls = .urgent ∨ b.cls = .claim) := by rcases low with e | e <;> simp [e]
  simp [State.handOwn, running, onChannel, Nat.not_lt.2 full, notHigh]

/-- R9: the station number that a running station sends under. -/
theorem own_of_running (running : s.link.running = some r) : s.own = r.number := by simp [State.own, running]

end HandOwn

/-! ### The block list consulted (R106, R107) -/

/-- R107: what a hit leaves may be read before and after steps that leave it alone. -/
theorem HitTaken.congr {s s' t' t : State} {p : PermitRecord} {cls : PermitClass} {use : CheckUse}
    (f : HitTaken s' t' p cls use) (before : SameBlocks s s')
    (core : (t.faultEntry .permitBlocked).core = (t'.faultEntry .permitBlocked).core)
    (noticed : ∀ b : NoticeBody, b.kind = .blockHit → t'.Noticed b → t.Noticed b) : HitTaken s t p cls use where
  raised hit e table := by
    have entry : s'.faultEntry .permitBlocked = s.faultEntry .permitBlocked := by
      simp [State.faultEntry, before.table]
    obtain ⟨detail, raisedAt, occurrences⟩ := f.raised hit (by rw [before.ret]; exact e) (by rw [before.table]; exact table)
    have last {α : Type} (g : FaultEntry → α) : g (t.faultEntry .permitBlocked).core =
        g (t'.faultEntry .permitBlocked).core := congrArg g core
    exact ⟨(last FaultEntry.detail).trans detail, (last FaultEntry.raisedAt).trans (by rw [← before.ret]; exact raisedAt),
      (last FaultEntry.occurrences).trans (by rw [← entry]; exact occurrences)⟩
  noticed i action e on := by
    have level : s'.link.level .blockHit = s.link.level .blockHit := by simp [MachineLink.level, before.running]
    have given := f.noticed i action (by rw [before.ret]; exact e) (by rw [level]; exact on)
    rw [before.ret] at given
    exact noticed _ rfl given

/-- R107: a hit raises PERMIT BLOCKED and gives BLOCK HIT. -/
theorem hitTaken_consult (s : State) (p : PermitRecord) (cls : PermitClass) (use : CheckUse) :
    HitTaken s (s.consult p.serial cls use).1 p cls use where
  raised hit e table := by
    obtain ⟨i, action⟩ := hit
    have raised := raised_raise table .permitBlocked (p.serial % wordSpan)
    have given := raised.of_core ((onlyReports_give (s.raise .permitBlocked (p.serial % wordSpan))
      (.blockHit p.serial cls i action use s.now)).entry .permitBlocked)
    simp only [State.consult, e]
    exact ⟨given.detail.trans (Nat.mod_mod _ _), given.raisedAt, given.occurrences⟩
  noticed i action e on := by
    simp only [State.consult, e]
    exact noticed_give (by rw [(sameBut_raise _ _ _).level]; exact on)

/-- R107: without a hit the block list does nothing. -/
theorem consult_of_no_hit {s : State} {serial : Nat} {cls : PermitClass} (h : blockHit s.ret.blockList serial cls = none)
    (use : CheckUse) : s.consult serial cls use = (s, none) := by
  simp [State.consult, h]

theorem consult_snd (s : State) (serial : Nat) (cls : PermitClass) (use : CheckUse) :
    (s.consult serial cls use).2 = (blockHit s.ret.blockList serial cls).map Prod.snd := by
  unfold State.consult
  split
  · next e => simp [e]
  · next e => simp [e]

/-- R104: a permit is judged by the clock, the configuration and the active table alone. -/
theorem judgePermit_congr {s t : State} (h : SameButReports s t) (p : PermitRecord) (cls : PermitClass) (key : Nat) :
    t.judgePermit p cls key = s.judgePermit p cls key := by
  have active : t.ret.active = s.ret.active := by rw [h.ret_eq]
  unfold State.judgePermit State.today State.now State.zoneCode
  rw [h.clock, h.running, active]

section Check
variable {s : State} {p : PermitRecord} {cls : PermitClass}

theorem checkPermit_of_refuse {i : Nat} (h : blockHit s.ret.blockList p.serial cls = some (i, .refuse)) (key : Nat)
    (use : CheckUse) : s.checkPermit p cls key use = ((s.consult p.serial cls use).1, .error .blocked) := by
  have action : (s.consult p.serial cls use).2 = some .refuse := by rw [consult_snd, h]; rfl
  unfold State.checkPermit
  split
  · next e => rw [e]
  · next other e =>
    rw [e] at action
    exact (other action).elim

theorem checkPermit_of_pass (h : ∀ i, blockHit s.ret.blockList p.serial cls ≠ some (i, .refuse)) (key : Nat)
    (use : CheckUse) :
    s.checkPermit p cls key use = ((s.consult p.serial cls use).1, s.judgePermit p cls key) := by
  have same := sameBut_consult s p.serial cls use
  have action : (s.consult p.serial cls use).2 ≠ some .refuse := by
    rw [consult_snd]
    intro e
    obtain ⟨⟨i, a⟩, hit, rfl⟩ := Option.map_eq_some_iff.1 e
    exact h i hit
  unfold State.checkPermit
  split
  · next e => exact absurd (congrArg Prod.snd e) action
  · next e =>
    rw [e] at same ⊢
    rw [judgePermit_congr same]

end Check

/-- R107: from s to t the effects of a block-list hit were taken, and nothing else. -/
theorem noticesKept_blockHit {s t : State} (h : NoticesKept s t) (b : NoticeBody) (e : b.kind = .blockHit) (given :
    s.Noticed b) :
    t.Noticed b := (h.noticed (by rw [e]; nofun) (by rw [e]; nofun)).2 given

theorem hitTaken_taken {s : State} {r : Running} {q : Request} {p : PermitRecord} {cls : PermitClass} {use : CheckUse}
    {t : State} (core : (t.faultEntry .permitBlocked).core =
      (((s.taking r q).consult p.serial cls use).1.faultEntry .permitBlocked).core)
    (noticed : ∀ b : NoticeBody, b.kind = .blockHit → ((s.taking r q).consult p.serial cls use).1.Noticed b → t.Noticed b) :
    HitTaken s t p cls use :=
  (hitTaken_consult (s.taking r q) p cls use).congr (sameBlocks_taking s r q) core noticed

/-! ### PERMIT CHECK (R104) -/

/-- R104: the answer to a permit's check. -/
def permitAnswer (today : Nat) (set : Bool) : Except Reason PermitWorth → Answer
  | .error e => .refuse e (.judged today set none)
  | .ok w => .done (.judged today set (some w))

theorem reqPermitCheck_of_form {s : State} {p : PermitRecord} {cls : PermitClass} (form : permitForm p = some cls) (key :
    Nat) :
    reqPermitCheck p key s = ((s.consult p.serial cls .permitCheck).1,
      permitAnswer s.today s.ret.clock.set (s.checkPermit p cls key .permitCheck).2) := by
  have fst := checkPermit_fst s p cls key .permitCheck
  have clock := (sameBut_checkPermit s p cls key .permitCheck).clock
  have today : (s.checkPermit p cls key .permitCheck).1.today = s.today := by simp only [State.today, State.now, clock]
  unfold reqPermitCheck
  rw [form]
  dsimp only
  split
  · next e =>
    rw [e] at fst clock today ⊢
    dsimp only at fst clock today ⊢
    rw [clock, today, fst, permitAnswer]
  · next e =>
    rw [e] at fst clock today ⊢
    dsimp only at fst clock today ⊢
    rw [clock, today, fst, permitAnswer]

/-- Settles O26. -/
theorem permitCheckAnswers : Obligations.PermitCheckAnswers := by
  intro s r p key free
  refine ⟨fun form => ?malformed, fun cls form => ?formed⟩
  case malformed =>
    have handled : reqPermitCheck p key (s.taking r (.permitCheck p key)) = (s.taking r (.permitCheck p key), .bad) := by
      simp [reqPermitCheck, form]
    exact answered_without_effect (q := .permitCheck p key) free nofun (congrArg atOnce handled)
  let u := s.taking r (.permitCheck p key)
  have same := sameBut_consult u p.serial cls .permitCheck
  have ret := same.ret_eq
  have step : exec (.permitCheck p key) s = _ := exec_commandOf_of_handle (q := .permitCheck p key) free nofun
    (congrArg atOnce (reqPermitCheck_of_form (s := u) form key))
  refine ⟨_, step, same.walk.trans free.isOpen.walk, same.permits, same.cash, same.box, ?_, same.records, fun none => ?_,
    hitTaken_taken (r := r) (q := .permitCheck p key) rfl fun b _ given => noticed_settle.2 given, fun i hit => ?_,
    fun x e pass => ⟨fun reason judged => ?_, fun w judged => ?_⟩⟩
  · rw [settle_ret, respond_ret, ret]; rfl
  · have noHit : u.consult p.serial cls .permitCheck = (u, Option.none) := consult_of_no_hit (s := u) none .permitCheck
    have whole := sameBlocks_respond_settle (sameBlocks_taking s r (.permitCheck p key)) 11
      (permitAnswer u.today u.ret.clock.set (u.checkPermit p cls key .permitCheck).2)
    rw [noHit]
    exact whole
  · rw [checkPermit_of_refuse (s := u) hit]
    exact answered_respond_settle _ _ _
  · have judged : u.judgePermit p cls key = .error reason := judged
    rw [checkPermit_of_pass (s := u) fun i hit => pass i (e.symm.trans hit), judged]
    exact answered_respond_settle _ _ _
  · have judged : u.judgePermit p cls key = .ok w := judged
    rw [checkPermit_of_pass (s := u) fun i hit => pass i (e.symm.trans hit), judged]
    exact answered_respond_settle _ _ _

/-! ### SELL (R83 to R87) -/

theorem salePermit_of_permit {s : State} {q : SellRequest} {h : Option StayRecord} {p : PermitRecord} {cls : PermitClass}
    (permit : q.permit = some p) (form : permitForm p = some cls) :
    (s.salePermit q h).1 = (s.consult p.serial cls .sell).1 := by
  unfold State.salePermit
  rw [permit]
  dsimp only
  rw [form]
  dsimp only
  have fst := checkPermit_fst s p cls (match h with | some x => x.key | none => q.key) .sell
  split <;> (next e => exact (congrArg Prod.fst e).symm.trans fst)

/-- R87: what a checked permit is worth to a SELL. -/
def saleWorth (mark : PermitMark) : Except Reason PermitWorth → Except Reason (Nat × Option PermitMark)
  | .error e => .error e
  | .ok (.visitor _) => .error .visitor
  | .ok (.valid _ (some .exempt)) => .error .exempt
  | .ok (.valid _ (some (.discount d))) => .ok (d, some mark)
  | .ok (.valid _ _) => .ok (0, none)

theorem salePermit_snd {s : State} {q : SellRequest} {h : Option StayRecord} {p : PermitRecord} {cls : PermitClass}
    (permit : q.permit = some p) (form : permitForm p = some cls) : (s.salePermit q h).2 =
      saleWorth { cls, serial := p.serial }
        (s.checkPermit p cls ((h.map StayRecord.key).getD q.key) .sell).2 := by
  have key : (match h with | some x => x.key | none => q.key) = (h.map StayRecord.key).getD q.key := by cases h <;> rfl
  rw [← key]
  unfold State.salePermit
  rw [permit]
  dsimp only
  rw [form]
  dsimp only
  generalize s.checkPermit p cls _ .sell = checked
  obtain ⟨u, worth⟩ := checked
  unfold saleWorth
  cases worth with
  | error e => rfl
  | ok w =>
    cases w with
    | visitor a => rfl
    | valid c treatment =>
      cases treatment with
      | none => rfl
      | some t => cases t <;> rfl

/-- R87: a permit is checked alike in states that differ in the link alone. -/
theorem salePermit_snd_taking (s : State) (r : Running) (q : SellRequest) (x : Request) (h : Option StayRecord) :
    ((s.taking r x).salePermit q h).2 = (s.salePermit q h).2 := by
  cases permit : q.permit with
  | none => simp [State.salePermit, permit]
  | some p =>
    cases form : permitForm p with
    | none => simp [State.salePermit, permit, form]
    | some cls =>
      rw [salePermit_snd permit form, salePermit_snd permit form]
      by_cases refuses : ∃ i, blockHit s.ret.blockList p.serial cls = some (i, .refuse)
      · obtain ⟨i, hit⟩ := refuses
        rw [checkPermit_of_refuse (s := s) hit, checkPermit_of_refuse (s := s.taking r x) hit]
      · have pass : ∀ i, blockHit s.ret.blockList p.serial cls ≠ some (i, .refuse) := fun i hit => refuses ⟨i, hit⟩
        rw [checkPermit_of_pass (s := s) pass, checkPermit_of_pass (s := s.taking r x) pass]
        rfl

/-- Settles O21. -/
theorem sellBeginsWalk : Obligations.SellBeginsWalk := by
  refine ⟨fun s r q free form => ?malformed, fun s r q free form => ⟨fun unset => ?unset, fun set none => ?noTariff,
    fun table set active => ⟨fun a standing => ?standing, fun a stands target => ?target,
      fun h e stands target permit => ?permit, fun h d mark stands target permit => ?begun⟩⟩⟩
  all_goals have ret : (s.taking r (.sell q)).ret = s.ret := rfl
  case malformed =>
    have handled : reqSell q (s.taking r (.sell q)) = (s.taking r (.sell q), some .bad) := by simp [reqSell, ret, form]
    exact answered_without_effect (q := .sell q) free nofun handled
  case unset =>
    have handled : reqSell q (s.taking r (.sell q)) = (s.taking r (.sell q), some (.refuse .timeUnset)) := by
      simp [reqSell, form, ret, unset]
    exact answered_without_effect (q := .sell q) free nofun handled
  case noTariff =>
    have handled : reqSell q (s.taking r (.sell q)) = (s.taking r (.sell q), some (.refuse .noTariff)) := by
      simp [reqSell, form, ret, set, none]
    exact answered_without_effect (q := .sell q) free nofun handled
  case standing =>
    have standing : (s.taking r (.sell q)).standingRefusal q.tender = some a := standing
    have handled : reqSell q (s.taking r (.sell q)) = (s.taking r (.sell q), some a) := by
      simp [reqSell, form, ret, set, active, standing]
    exact answered_without_effect (q := .sell q) free nofun handled
  all_goals
    have stands : (s.taking r (.sell q)).standingRefusal q.tender = none := stands
  case target =>
    have target : (s.taking r (.sell q)).saleTarget table q = .error a := target
    have handled : reqSell q (s.taking r (.sell q)) = (s.taking r (.sell q), some a) := by
      simp [reqSell, form, ret, set, active, stands, target]
    exact answered_without_effect (q := .sell q) free nofun handled
  all_goals
    have target : (s.taking r (.sell q)).saleTarget table q = .ok h := target
    have same := sameBut_salePermit (s.taking r (.sell q)) q h
  case permit =>
    have handled : reqSell q (s.taking r (.sell q)) = (((s.taking r (.sell q)).salePermit q h).1, some (.refuse e)) := by
      have whole : (s.taking r (.sell q)).salePermit q h = (((s.taking r (.sell q)).salePermit q h).1, .error e) :=
        Prod.ext rfl ((salePermit_snd_taking s r q _ h).trans permit)
      simp only [reqSell, ret, form, set, active, stands, target, Bool.not_true, Bool.false_eq_true, if_false]
      rw [whole]
    refine ⟨_, exec_commandOf_of_handle (q := .sell q) free nofun handled, answered_respond_settle _ _ _,
      same.walk.trans free.isOpen.walk, same.permits, same.cash, same.box, fun p cls given formed => ?_⟩
    have consulted := salePermit_of_permit (s := s.taking r (.sell q)) (h := h) given formed
    exact hitTaken_taken (r := r) (q := .sell q) (by rw [consulted]; rfl) fun b _ noticed => by
      rw [consulted]
      exact noticed_settle.2 noticed
  case begun =>
    let walk := beginWalk table s.ret.clock.time q.asked d h
      (some { key := q.key, tender := q.tender, examined := s.ret.box.denominations, permit := mark })
    have handled : reqSell q (s.taking r (.sell q)) =
        (((s.taking r (.sell q)).salePermit q h).1.setWalk (some walk), none) := by
      have whole : (s.taking r (.sell q)).salePermit q h = (((s.taking r (.sell q)).salePermit q h).1, .ok (d, mark)) :=
        Prod.ext rfl ((salePermit_snd_taking s r q _ h).trans permit)
      simp only [reqSell, ret, form, set, active, stands, target, Bool.not_true, Bool.false_eq_true, if_false]
      rw [whole]
      rfl
    obtain ⟨ns, link⟩ := same.link
    obtain ⟨step, inbound, -⟩ := held_of_handle (q := .sell q) free nofun handled (by simp [link])
      (by simp [link, free.isOpen.waiting])
    refine ⟨_, step, inbound, rfl, same.permits, same.cash, same.staging, same.records, fun p cls given formed => ?_⟩
    have consulted := salePermit_of_permit (s := s.taking r (.sell q)) (h := h) given formed
    exact hitTaken_taken (r := r) (q := .sell q) (by rw [← consulted]; rfl) fun b _ noticed =>
      noticed_settle.2 (by rw [← consulted] at noticed; exact noticed)

end Sys2Proof.Machine

/-! PROOF. The claim in flight: its opening, the end of its objection window, and its timers: O28, O29 and O30. -/

namespace Sys2Proof.Machine

/-! ### What the permit unit's operations leave alone -/

/-- From s to t the permit block changed, and else as `SameButReports` leaves it. -/
def PermitsOnly (s t : State) : Prop := SameButReports (s.setPermits t.permits) t

theorem SameButReports.setPermits {s t : State} (h : SameButReports s t) (p : PermitBlock) :
    SameButReports (s.setPermits p) (t.setPermits p) := { h with permits := rfl }

namespace PermitsOnly

theorem of_sameBut {s t : State} (h : SameButReports s t) : PermitsOnly s t := by
  unfold PermitsOnly
  rw [h.permits]
  exact h

theorem refl (s : State) : PermitsOnly s s := .of_sameBut (.refl s)

theorem trans {s t u : State} (h : PermitsOnly s t) (k : PermitsOnly t u) : PermitsOnly s u :=
  (SameButReports.setPermits (s := s.setPermits t.permits) h u.permits).trans k

theorem setPermits (s : State) (p : PermitBlock) : PermitsOnly s (s.setPermits p) := SameButReports.refl _

theorem of_base {s t : State} {p : PermitBlock} (h : SameButReports (s.setPermits p) t) : PermitsOnly s t :=
  (setPermits s p).trans (.of_sameBut h)

end PermitsOnly

section Flight
variable (s : State) (c : Claim) (f : Flight)

/-- R118: a claim in flight that ends leaves the list, and else a RELEASE is handed and notice given. -/
theorem onlyReports_endFlight (o : ClaimOutcome) :
    OnlyReports (s.setPermits { claims := s.permits.claims.filter fun x => !x.inFlight, flight := none })
      (s.endFlight c f o) := by
  unfold State.endFlight
  dsimp only
  refine .trans ?_ (onlyReports_give _ _)
  split
  · exact onlyReports_handOwn _ _
  · exact .refl _

theorem endFlight_permits (o : ClaimOutcome) :
    (s.endFlight c f o).permits = { claims := s.permits.claims.filter fun x => !x.inFlight, flight := none } :=
  (onlyReports_endFlight s c f o).permits

theorem permitsOnly_endFlight (o : ClaimOutcome) : PermitsOnly s (s.endFlight c f o) :=
  .of_base (onlyReports_endFlight s c f o).toSameButReports

theorem permitsOnly_reopen : PermitsOnly s (s.reopen c f) := by
  unfold State.reopen
  split
  · exact .refl s
  split
  · exact permitsOnly_endFlight s c f _
  dsimp only
  have handed := PermitsOnly.of_sameBut (sameBut_handOwn s (.claimOpen (openBody c f.allowance (f.attempts + 1))))
  split
  · next e => rw [e] at handed; exact handed.trans (permitsOnly_endFlight _ _ _ _)
  · next e => rw [e] at handed; exact handed.trans (.setPermits _ _)
  · next e => rw [e] at handed; exact handed.trans (.setPermits _ _)

theorem permitsOnly_endWait : PermitsOnly s s.endWait := by
  unfold State.endWait
  split
  · exact .refl s
  split
  · exact .refl s
  dsimp only
  split
  · exact (PermitsOnly.setPermits s _).trans (permitsOnly_endFlight _ _ _ _)
  · exact (PermitsOnly.setPermits s _).trans (permitsOnly_reopen _ _ _)

end Flight

/-! ### The wait of the claim in flight (R117) -/

/-- No claim waits, nor does what a claim in flight carries name one waited for. -/
structure PermitBlock.NoWait (p : PermitBlock) : Prop where
  claims : ∀ x ∈ p.claims, x.state ≠ .waiting
  flight : ∀ g, p.flight = some g → g.waitFor = none ∧ g.waitTimer = none

theorem mem_filter_not_inFlight {cs : List Claim} {x : Claim} (h : x ∈ cs.filter fun x => !x.inFlight) :
    x.inFlight = false := by simpa using (List.mem_filter.1 h).2

theorem state_ne_waiting {x : Claim} (h : x.inFlight = false) : x.state ≠ .waiting := by
  intro e
  simp [Claim.inFlight, e] at h

theorem noWait_endFlight (s : State) (c : Claim) (f : Flight) (o : ClaimOutcome) : (s.endFlight c f o).permits.NoWait := by
  rw [endFlight_permits]
  exact ⟨fun x hx => state_ne_waiting (mem_filter_not_inFlight hx), nofun⟩

/-- A claim in flight set PENDING leaves none waiting. -/
theorem noWait_setFlightState (s : State) {f : Flight} (waitFor : f.waitFor = none) (waitTimer : f.waitTimer = none) :
    (s.setFlightState .pending f).permits.NoWait := by
  refine ⟨fun x hx => ?_, fun g hg => ?_⟩
  · obtain ⟨y, -, rfl⟩ := List.mem_map.1 hx
    split
    · nofun
    · next notInFlight => exact state_ne_waiting (by simpa using notInFlight)
  · obtain rfl := Option.some.inj hg
    exact ⟨waitFor, waitTimer⟩

theorem noWait_reopen {s : State} {c : Claim} {f : Flight} (h : s.permits.NoWait) (pending : c.state = .pending)
    (waitFor : f.waitFor = none) (waitTimer : f.waitTimer = none) : (s.reopen c f).permits.NoWait := by
  unfold State.reopen
  split
  · exact h
  split
  · exact noWait_endFlight s c f _
  dsimp only
  split
  · exact noWait_endFlight _ c f _
  · rw [pending]
    exact noWait_setFlightState _ waitFor waitTimer
  · rw [pending]
    exact noWait_setFlightState _ waitFor waitTimer

/-- R117: after the wait of a waiting claim in flight ends, no claim waits. -/
theorem noWait_endWait {s : State} {c : Claim} {f : Flight} (current : s.permits.current = some (c, f))
    (waiting : c.state = .waiting) : s.endWait.permits.NoWait := by
  unfold State.endWait
  rw [current]
  simp only [waiting, ne_eq, not_true_eq_false, if_false]
  split
  · exact noWait_endFlight _ _ _ _
  · exact noWait_reopen (noWait_setFlightState s rfl rfl) rfl rfl rfl

theorem flight_of_current {p : PermitBlock} {c : Claim} {f : Flight} (h : p.current = some (c, f)) :
    p.flight = some f ∧ p.claims.find? Claim.inFlight = some c := by
  unfold PermitBlock.current at h
  split at h
  · next found flight =>
    cases h
    exact ⟨flight, found⟩
  · cases h

/-- Settles O30. -/
theorem claimTimersExpire : Obligations.ClaimTimersExpire := by
  refine ⟨fun s c f power current waiting timer => ?wait, fun s id power =>
    congrArg Host.Outcome.next (whilePowered_of_power power _)⟩
  have expired : s.waitOver = s.endWait := by
    simp [State.waitOver, (flight_of_current current).1, timer]
  have frame := permitsOnly_endWait s
  obtain ⟨claims, flight⟩ := noWait_endWait current waiting
  refine ⟨s.waitOver.settle, congrArg Host.Outcome.next (whilePowered_of_power power _), ?_⟩
  rw [expired]
  exact ⟨claims, flight, frame.clock, frame.cash, frame.records⟩

/-! ### The end of the objection window (R115) -/

theorem sameBut_setMark (s : State) (id : Identity) (mark : Bool) : SameButReports s (s.setMark id mark) :=
  sameBut_marks s _ fun x => by split <;> rfl

theorem sameBut_announce (s : State) (r : StayRecord) : SameButReports s (s.announce r) := by
  have handed := sameBut_handOwn s (.stay [r] false)
  unfold State.announce
  split
  · next e => rw [e] at handed; exact handed.trans (sameBut_setMark _ _ _)
  · next e => rw [e] at handed; exact handed.trans (sameBut_setMark _ _ _)

/-- R82: a record entered into a table with room is in the table. -/
theorem enterRecord_of_room {s : State} (room : s.stay.entries.length < 384) (r : StayRecord) :
    s.enterRecord r = s.setEntries (insertEntry { record := r, unannounced := false } s.stay.entries) := by
  simp [State.enterRecord, stayCapacity, room]

/-- R91: a VISITOR DAY record changes the ticket counter and the table of stays, and else hands and reports. -/
theorem commitVisitorDay_frame (s : State) (c : Claim) : ∃ n es,
    SameButReports ((s.setRet { s.ret with ticket := n }).setEntries es) (s.commitVisitorDay c).1 ∧
      (s.stay.entries.length < 384 → ∃ e ∈ es, e.record.kind = .visitorDay ∧ e.record.key = c.key ∧
        e.record.expiry = (c.day + 1) * 86400) := by
  let u := (s.takeTicket s.now).1
  let x := visitorRecord c (s.takeTicket s.now).2 ((s.ret.active.map TariffTable.name).getD { id := 0, version := 0 })
  obtain ⟨es, same⟩ := sameBut_enterRecord u x
  by_cases room : s.stay.entries.length < 384
  · refine ⟨u.ret.ticket, insertEntry { record := x, unannounced := false } s.stay.entries, ?_, fun _ =>
      ⟨{ record := x, unannounced := false }, mem_insertEntry.2 (.inl rfl), rfl, rfl, rfl⟩⟩
    have entered : u.enterRecord x = u.setEntries (insertEntry { record := x, unannounced := false } s.stay.entries) :=
      enterRecord_of_room (s := u) room x
    have announced := sameBut_announce (u.enterRecord x) x
    rw [entered] at announced
    change SameButReports _ ((u.enterRecord x).announce x)
    rw [entered]
    exact announced
  · exact ⟨u.ret.ticket, es, same.trans (sameBut_announce _ _), fun h => absurd h room⟩

/-- Settles O29. -/
theorem objectionWindowGrants : Obligations.ObjectionWindowGrants := by
  intro s c f power current window
  have step : exec .objectionWindowExpiry s = .next s.windowOver.settle :=
    congrArg Host.Outcome.next (whilePowered_of_power power _)
  obtain ⟨w, open_⟩ := Option.isSome_iff_exists.1 window
  cases verdict : flightVerdict s.permits c f with
  | some o =>
    have expired : s.windowOver = s.endFlight c f o := by
      simp [State.windowOver, current, open_, verdict]
    have frame := permitsOnly_endFlight s c f o
    refine ⟨_, step, ?_⟩
    rw [expired]
    have permits : (s.endFlight c f o).settle.permits =
      { claims := s.permits.claims.filter fun x => !x.inFlight, flight := none } := endFlight_permits s c f o
    refine ⟨by rw [permits], ?_, frame.clock, frame.cash, frame.staging, fun _ _ => ⟨by rw [permits], frame.records⟩, nofun⟩
    rw [permits]
    exact fun x hx => mem_filter_not_inFlight hx
  | none =>
    have expired : s.windowOver = s.grant c f := by
      simp [State.windowOver, current, open_, verdict]
    let firm := s.permits.claims.map fun x => if x.inFlight then { x with state := .firm } else x
    let granted := s.setPermits { claims := firm, flight := none }
    let handed := (granted.handOwn (.claimFirm
      { idSeq := c.id.seq, serial := c.serial, day := c.day, key := c.key, openTime := c.openTime })).1
    have first : SameButReports granted handed := sameBut_handOwn _ _
    obtain ⟨n, es, second, entered⟩ := commitVisitorDay_frame handed c
    have third : SameButReports (handed.commitVisitorDay c).1 (s.grant c f) := sameBut_give _ _
    have frame := second.trans third
    have permits : (s.grant c f).permits = { claims := firm, flight := none } := frame.permits.trans first.permits
    obtain ⟨-, found⟩ := flight_of_current current
    refine ⟨_, step, ?_⟩
    rw [expired]
    refine ⟨congrArg PermitBlock.flight permits, ?_, frame.clock.trans first.clock, frame.cash.trans first.cash,
      frame.staging.trans first.staging, nofun, fun _ => ⟨?_, fun room => ?_⟩⟩
    all_goals simp only [settle_permits, settle_stay, permits]
    · intro x hx
      obtain ⟨y, -, rfl⟩ := List.mem_map.1 hx
      split
      · rfl
      · next notInFlight => simpa using notInFlight
    · refine ⟨{ c with state := .firm }, List.mem_map.2 ⟨c, List.mem_of_find?_eq_some found, ?_⟩, rfl, rfl⟩
      rw [if_pos (by simpa using List.find?_some found)]
    · have length : handed.stay.entries.length = s.stay.entries.length := first.entriesLength
      obtain ⟨e, mem, facts⟩ := entered (by rw [length]; exact room)
      have records : (s.grant c f).stay.entries.map StayEntry.record = es.map StayEntry.record := frame.records
      have held : e.record ∈ (s.grant c f).stay.entries.map StayEntry.record := by
        rw [records]
        exact List.mem_map_of_mem mem
      obtain ⟨e', mem', same⟩ := List.mem_map.1 held
      exact ⟨e', mem', by rw [same]; exact facts⟩

/-! ### CLAIM VISITOR DAY (R113) -/

section Claim
variable {s u : State} {r : Running} {p : PermitRecord} {key allowance : Nat} {cls : PermitClass}

/-- R113: a CLAIM VISITOR DAY whose checks pass hands its CLAIM OPEN. -/
theorem reqClaimVisitorDay_of_checked {t : State} (keyed : key ≠ 0) (form : permitForm p = some cls)
    (service : t.faults.service = .inService ∨ t.faults.service = .degraded)
    (checked : t.checkPermit p cls key .claimVisitorDay = (u, .ok (.visitor allowance)))
    (passes : claimRefusal u.permits p.serial u.today key allowance = none) :
    reqClaimVisitorDay p key t =
      match u.handOwn (.claimOpen { idSeq := 0, serial := p.serial, day := u.today, key, openTime := u.now, allowance
                                    attempt := 1 }) with
      | (_, .refused) => (u, .refuse .zoneBusy)
      | (v, .queued seq) => v.openClaim p.serial key allowance { origin := u.own, seq } false
      | (v, .completed) => v.openClaim p.serial key allowance { origin := 0, seq := 0 } true := by
  have stands : ¬ (t.faults.service = .outOfService ∨ t.faults.service = .hold) := by
    rcases service with e | e <;> simp [e]
  unfold reqClaimVisitorDay
  rw [form]
  simp only [keyed, if_false, stands, checked, passes]
    <;> rfl

/-- R113: what the check of a CLAIM VISITOR DAY leaves, from the state before its command. -/
theorem checked_frame (free : s.LinkFree r)
    (checked : (s.taking r (.claimVisitorDay p key)).checkPermit p cls key .claimVisitorDay = (u, .ok (.visitor allowance))) :
    u = ((s.taking r (.claimVisitorDay p key)).consult p.serial cls .claimVisitorDay).1 ∧
      SameButReports (s.taking r (.claimVisitorDay p key)) u ∧ u.link.running = some r := by
  have fst := checkPermit_fst (s.taking r (.claimVisitorDay p key)) p cls key .claimVisitorDay
  have same := sameBut_checkPermit (s.taking r (.claimVisitorDay p key)) p cls key .claimVisitorDay
  rw [checked] at fst same
  exact ⟨fst, same, same.running.trans free.running⟩

/-- R107: the effects of a hit stand when the claim is opened or refused. -/
theorem hitTaken_claim {t v : State} (fst : u = ((s.taking r (.claimVisitorDay p key)).consult p.serial cls .claimVisitorDay).1)
    (only : OnlyReports u v) (notices : NoticesKept u v) (core : t.faults = v.faults)
    (noticed : ∀ b, v.Noticed b → t.Noticed b) : HitTaken s t p cls .claimVisitorDay := by
  refine hitTaken_taken (r := r) (q := .claimVisitorDay p key) ?_ fun b e given => ?_
  · rw [← fst, State.faultEntry, core]
    exact only.entry .permitBlocked
  · rw [← fst] at given
    exact noticed b (noticesKept_blockHit notices b e given)

end Claim

theorem admitOwn_entries_chan (s : State) (b : QueuedBody) : (s.admitOwn b).1.stay = s.stay ∧
    (s.admitOwn b).1.ret = { s.ret with seq := (s.ret.seq + 1) % 65536 } ∧
    (s.admitOwn b).2 = .queued ((s.ret.seq + 1) % 65536) := ⟨rfl, rfl, rfl⟩

theorem onEvicted_ret (s : State) (e : TxEntry) : (s.onEvicted e).ret = s.ret := by
  unfold State.onEvicted
  split
  · rfl
  split
  · rfl
  · unfold State.deferAfterRefusal
    dsimp only
    split <;> rfl
  · rfl

/-- R10: an own URGENT or CLAIM frame is admitted while the queue has room or an entry gives way. -/
theorem handOwn_of_high {s : State} {r : Running} {b : QueuedBody} (running : s.link.running = some r)
    (onChannel : r.number ≠ 0) (high : b.cls = .urgent ∨ b.cls = .claim)
    (taken : s.chan.queue.length < 16 ∨ (victim s.chan.queue).isSome = true) :
    ∃ v, s.handOwn b = (v, .queued ((s.ret.seq + 1) % 65536)) ∧ v.ret.seq = (s.ret.seq + 1) % 65536 ∧
      (s.chan.queue.length < 16 → v.stay = s.stay) := by
  by_cases room : s.chan.queue.length < 16
  · exact ⟨_, handOwn_of_room running onChannel room, rfl, fun _ => rfl⟩
  · obtain ⟨w, gives⟩ := Option.isSome_iff_exists.1 (taken.resolve_left room)
    have ret : ((s.setQueue (s.chan.queue.erase w)).onEvicted w).ret = s.ret := onEvicted_ret _ _
    refine ⟨(((s.setQueue (s.chan.queue.erase w)).onEvicted w).admitOwn b).1,
      (handOwn_of_victim running onChannel (Nat.not_lt.1 room) high gives).trans ?_, ?_, fun h => absurd h room⟩
    · exact Prod.ext rfl (by rw [(admitOwn_entries_chan _ _).2.2, ret])
    · rw [(admitOwn_entries_chan _ _).2.1, ret]

/-- Settles O28. -/
theorem claimVisitorDayOpens : Obligations.ClaimVisitorDayOpens := by
  intro s u r p key allowance cls free keyed form service checked passes
  obtain ⟨fst, same, running⟩ := checked_frame free checked
  have own : u.own = r.number := own_of_running running
  have day : u.today = s.today := by simp only [State.today, State.now, same.clock]; rfl
  have now : u.now = s.ret.clock.time := congrArg Clock.time same.clock
  let body : QueuedBody := .claimOpen
    { idSeq := 0, serial := p.serial, day := u.today, key, openTime := u.now, allowance, attempt := 1 }
  have request := reqClaimVisitorDay_of_checked keyed form (t := s.taking r (.claimVisitorDay p key)) service checked passes
  have noneHere : u.permits = s.permits := same.permits
  have walk : u.walk = none := same.walk.trans free.isOpen.walk
  have step {v : State} {a : Answer} (e : reqClaimVisitorDay p key (s.taking r (.claimVisitorDay p key)) = (v, a)) :
      exec (.claimVisitorDay p key) s = .next (v.respond 12 a).settle :=
    exec_commandOf_of_handle (q := .claimVisitorDay p key) free nofun (congrArg atOnce e)
  refine ⟨fun onChannel full noVictim => ?busy, fun onChannel taken => ?queued, fun inLocal => ?alone⟩
  case busy =>
    rw [handOwn_of_no_victim running onChannel full (.inr rfl) noVictim] at request
    exact ⟨_, step request, answered_respond_settle _ _ _, noneHere, rfl, rfl, rfl, same.cash, walk,
      hitTaken_claim fst (.refl u) (.refl u) rfl fun b given => noticed_settle.2 given⟩
  case queued =>
    obtain ⟨v, handed, seq, stay⟩ := handOwn_of_high (b := body) running onChannel (.inr rfl) taken
    have only : OnlyReports u v := by
      have same := onlyReports_handOwn u body
      rw [handed] at same
      exact same
    have link : v.link = u.link := (congrArg (fun x => State.link x.1) handed).symm.trans (handOwn_link u body)
    rw [handed] at request
    have today : v.today = s.today := by rw [← day]; simp only [State.today, State.now, only.clock]
    have vnow : v.now = s.ret.clock.time := by rw [← now]; simp only [State.now, only.clock]
    refine ⟨_, step request, seq, only.walk.trans walk, ?_, ⟨_, rfl, rfl, rfl, rfl, rfl⟩, only.records, stay,
      only.cash.trans same.cash, hitTaken_claim fst only (.of_link link) rfl fun b given => noticed_settle.2 given, ?_⟩
    · have claims : v.permits.claims = u.permits.claims := congrArg PermitBlock.claims only.permits
      change enterClaim v.permits.claims _ = _
      rw [claims, today, vnow, own, ← seq]
      rfl
    · have answer : (v.openClaim p.serial key allowance { origin := u.own, seq := (u.ret.seq + 1) % 65536 } false).2 =
          { result := .pending
            body := .claimOpened { origin := r.number, seq := v.ret.seq } s.today s.ret.clock.time } := by
        rw [← today, ← vnow, ← own, seq]
        rfl
      change State.Answered _ 12 { result := .pending, body := .claimOpened _ _ _ }
      rw [settle_ret, respond_ret]
      exact answer ▸ answered_respond_settle _ _ _
  case alone =>
    rw [handOwn_of_local running inLocal] at request
    have fields : (u.openClaim p.serial key allowance { origin := 0, seq := 0 } true).2 =
        { result := .pending, body := .claimOpened { origin := 0, seq := 0 } s.today s.ret.clock.time } := by
      rw [← day, ← now]
      rfl
    refine ⟨_, step request, rfl, walk, rfl, same.cash,
      hitTaken_claim fst (.refl u) (.refl u) rfl fun b given => noticed_settle.2 given, ?_, ⟨_, rfl, rfl, rfl, rfl⟩, ?_⟩
    · rw [← day, ← now]
      rfl
    · rw [← fields]
      exact answered_respond_settle _ _ _

end Sys2Proof.Machine

/-! PROOF. What zone time delivers: a table activated, a round expired, a day changed. -/

namespace Sys2Proof.Machine

/-! ### Activation (R51) -/

section Activation
variable (s : State) (loud : Bool) (x : TariffTable)

theorem reconsiderTariffIf_entry_other {k : FaultKind} (h : k ≠ .tariffBehind) :
    ((s.reconsiderTariffIf loud).faultEntry k).core = (s.faultEntry k).core := by
  unfold State.reconsiderTariffIf
  split
  · exact clearIf_entry_other h s loud
  · split
    · rfl
    · exact raiseIf_entry_other h s loud _

theorem sameBut_activate :
    SameButReports (s.setRet { s.ret with active := some x, awaiting := none }) (s.activate loud x) :=
  ((sameBut_give _ _).trans (sameBut_clearIf _ _ _)).trans (sameBut_reconsiderTariffIf _ _)

theorem activate_noTariff : (s.activate loud x).faultActive .noTariff = false := by
  have kept (t : State) : (t.reconsiderTariffIf loud).faultActive .noTariff = t.faultActive .noTariff :=
    (congrArg FaultEntry.active (reconsiderTariffIf_entry_other t loud (k := .noTariff) nofun) : _)
  exact (kept _).trans (clearIf_inactive _ _ _)

theorem activate_entry_other {k : FaultKind} (noTariff : k ≠ .noTariff) (behind : k ≠ .tariffBehind) :
    ((s.activate loud x).faultEntry k).core = (s.faultEntry k).core := by
  refine (reconsiderTariffIf_entry_other _ loud behind).trans ((clearIf_entry_other noTariff _ loud).trans ?_)
  exact (onlyReports_give _ _).entry k

theorem noticed_activate (level : s.link.level .tariffSwitched ≠ .off) : (s.activate loud x).Noticed
    (.tariffSwitched (s.ret.active.map TariffTable.name) x.name x.activation s.ret.clock.time) := by
  refine (((noticesKept_clearIf _ loud _).trans (noticesKept_reconsiderTariffIf _ loud)).noticed ?_ ?_).2
    (noticed_give (s := s.setRet { s.ret with active := some x, awaiting := none }) level)
  · exact nofun
  · exact nofun

end Activation

/-- R51: the retained items once a pending table whose time is reached has become active. -/
def Retained.activated (ret : Retained) : Retained :=
  match ret.awaiting with
  | none => ret
  | some x => if x.activation ≤ ret.clock.time then { ret with active := some x, awaiting := none } else ret

theorem activated_of_due {ret : Retained} {x : TariffTable} (h : ret.awaiting = some x) (due :
    x.activation ≤ ret.clock.time) :
    ret.activated = { ret with active := some x, awaiting := none } := by simp [Retained.activated, h, due]

theorem activated_of_not_due {ret : Retained} (h : ∀ x, ret.awaiting = some x → ret.clock.time < x.activation) :
    ret.activated = ret := by
  unfold Retained.activated
  split
  · rfl
  · next x awaiting => exact if_neg (Nat.not_le.2 (h x awaiting))

/-- R51: an activation touches the tariff store alone. -/
theorem activated_eq (ret : Retained) : ret.activated =
    { ret with active := ret.activated.active, awaiting := ret.activated.awaiting } := by
  unfold Retained.activated
  split
  · rfl
  · split <;> rfl

theorem activateDue_of_due {s : State} {x : TariffTable} (h : s.ret.awaiting = some x) (due : x.activation ≤ s.now)
    (loud : Bool) : s.activateDue loud = s.activate loud x := by simp [State.activateDue, h, due]

theorem activateDue_of_not_due {s : State} (h : ∀ x, s.ret.awaiting = some x → s.now < x.activation) (loud : Bool) :
    s.activateDue loud = s := by
  unfold State.activateDue
  split
  · rfl
  · next x awaiting => exact if_neg (Nat.not_le.2 (h x awaiting))

/-- R51: either the pending table is due, or nothing is activated. -/
theorem due_or_not (ret : Retained) : (∃ x, ret.awaiting = some x ∧ x.activation ≤ ret.clock.time) ∨
    ∀ x, ret.awaiting = some x → ret.clock.time < x.activation := by
  cases awaiting : ret.awaiting with
  | none => exact .inr nofun
  | some x =>
    obtain due | early := le_or_gt x.activation ret.clock.time
    · exact .inl ⟨x, rfl, due⟩
    · refine .inr fun y e => ?_
      obtain rfl : x = y := Option.some.inj e
      exact early

theorem sameBut_activateDue (s : State) (loud : Bool) : SameButReports (s.setRet s.ret.activated) (s.activateDue loud) := by
  obtain ⟨x, awaiting, due⟩ | early := due_or_not s.ret
  · rw [activated_of_due awaiting due, activateDue_of_due awaiting due]
    exact sameBut_activate s loud x
  · rw [activated_of_not_due early, activateDue_of_not_due early]
    exact .refl s

theorem activateDue_entry_other (s : State) (loud : Bool) {k : FaultKind} (noTariff : k ≠ .noTariff)
    (behind : k ≠ .tariffBehind) : ((s.activateDue loud).faultEntry k).core = (s.faultEntry k).core := by
  obtain ⟨x, awaiting, due⟩ | early := due_or_not s.ret
  · rw [activateDue_of_due awaiting due]
    exact activate_entry_other s loud x noTariff behind
  · rw [activateDue_of_not_due early]

/-! ### The round's expiry (R144) -/

section Expiry
variable (s : State)

theorem onlyReports_expireRound : OnlyReports (s.setRound s.ret.roundStanding) s.expireRound := by
  unfold State.expireRound
  split
  · next none =>
    have same : s.setRound s.ret.roundStanding = s := by
      rw [Retained.roundStanding, none, Option.map_none, ← none]
      rfl
    rw [same]
    exact .refl s
  · next x some =>
    rw [Retained.roundStanding, some, Option.map_some]
    split
    · next expired =>
      have closed : (x.isOpen && !roundExpired x.id s.ret.clock.time) = false := by
        simp only [Bool.and_eq_true] at expired
        have : roundExpired x.id s.ret.clock.time = true := expired.2
        simp [this]
      rw [closed]
      exact onlyReports_giveRound _ _
    · next stands =>
      have same : (x.isOpen && !roundExpired x.id s.ret.clock.time) = x.isOpen := by
        have : ¬ (x.isOpen && roundExpired x.id s.ret.clock.time) = true := stands
        cases e : x.isOpen <;> simp_all
      rw [same, show s.setRound (Option.some { x with isOpen := x.isOpen }) = s by rw [← some]; rfl]
      exact .refl s

theorem noticed_expireRound {b : NoticeBody} (h : b.kind ≠ .roundChanged) (given : s.Noticed b) :
    s.expireRound.Noticed b := by
  unfold State.expireRound
  split
  · exact given
  · split
    · unfold State.giveRound
      split
      · exact given
      · exact (noticed_give_of_ne (Ne.symm h)).2 given
    · exact given

theorem noticed_expired {x : Round} (round : s.ret.round = some x) (isOpen : x.isOpen = true)
    (expired : roundExpired x.id s.ret.clock.time = true) (level : s.link.level .roundChanged ≠ .off) :
    s.expireRound.Noticed (.roundChanged .expired x.id x.collector false x.entries.length) := by
  have expires : s.expireRound = (s.setRound (some { x with isOpen := false })).give
      (.roundChanged .expired x.id x.collector false x.entries.length) := by
    have now : roundExpired x.id s.now = true := expired
    simp [State.expireRound, round, isOpen, now, State.giveRound]
  rw [expires]
  exact noticed_give level

end Expiry

/-! ### The day change (R111, R121) -/

/-- R111, R121: the permit block once the claims of days before a day have left it. -/
def PermitBlock.fromDay (p : PermitBlock) (day : Nat) : PermitBlock :=
  match p.current with
  | some (c, _) =>
    if c.day < day then { claims := p.claims.filter fun x => !x.inFlight && decide (day ≤ x.day), flight := none }
    else { p with claims := p.claims.filter fun c => decide (day ≤ c.day) }
  | none => { p with claims := p.claims.filter fun c => decide (day ≤ c.day) }

theorem fromDay_of_current {p : PermitBlock} {day : Nat} {c : Claim} {f : Flight} (current : p.current = some (c, f))
    (earlier : c.day < day) :
    p.fromDay day = { claims := p.claims.filter fun x => !x.inFlight && decide (day ≤ x.day), flight := none } := by
  simp [PermitBlock.fromDay, current, earlier]

theorem fromDay_of_later {p : PermitBlock} {day : Nat} (h : ∀ c f, p.current = some (c, f) → day ≤ c.day) :
    p.fromDay day = { p with claims := p.claims.filter fun c => decide (day ≤ c.day) } := by
  unfold PermitBlock.fromDay
  split
  · next c f current => exact if_neg (Nat.not_lt.2 (h c f current))
  · rfl

section Day
variable (s : State)

theorem OnlyReports.setPermits {s t : State} (h : OnlyReports s t) (p : PermitBlock) :
    OnlyReports (s.setPermits p) (t.setPermits p) := { h with permits := rfl }

theorem current_or_later (p : PermitBlock) (day : Nat) : (∃ c f, p.current = some (c, f) ∧ c.day < day) ∨
    ∀ c f, p.current = some (c, f) → day ≤ c.day := by
  cases current : p.current with
  | none => exact .inr nofun
  | some x =>
    obtain ⟨c, f⟩ := x
    obtain later | earlier := le_or_gt day c.day
    · exact .inr fun c' f' e => by cases e; exact later
    · exact .inl ⟨c, f, rfl, earlier⟩

theorem dropOldClaims_of_current {c : Claim} {f : Flight} (current : s.permits.current = some (c, f))
    (earlier : c.day < s.today) : s.dropOldClaims = (s.endFlight c f (.deniedExpiredDay s.today)).setPermits
      (s.permits.fromDay s.today) := by
  have ended := endFlight_permits s c f (.deniedExpiredDay s.today)
  simp [State.dropOldClaims, current, earlier, State.setClaims, ended, fromDay_of_current current earlier,
    List.filter_filter, Bool.and_comm]

theorem dropOldClaims_of_later (h : ∀ c f, s.permits.current = some (c, f) → s.today ≤ c.day) :
    s.dropOldClaims = s.setPermits (s.permits.fromDay s.today) := by
  rw [fromDay_of_later h]
  unfold State.dropOldClaims
  split
  · next c f current => rw [if_neg (Nat.not_lt.2 (h c f current))]; rfl
  · rfl

theorem onlyReports_dropOldClaims : OnlyReports (s.setPermits (s.permits.fromDay s.today)) s.dropOldClaims := by
  obtain ⟨c, f, current, earlier⟩ | later := current_or_later s.permits s.today
  · rw [dropOldClaims_of_current s current earlier]
    exact (onlyReports_endFlight s c f _).setPermits _
  · rw [dropOldClaims_of_later s later]
    exact .refl _

/-- A notice stands or not by the machine link alone. -/
theorem noticed_of_link {s t : State} {b : NoticeBody} (h : t.link = s.link) : t.Noticed b ↔ s.Noticed b := by
  unfold State.Noticed
  rw [h]

theorem noticed_endFlight {c : Claim} {f : Flight} {o : ClaimOutcome} {b : NoticeBody} (h : b.kind ≠ .claimResult)
    (given : s.Noticed b) : (s.endFlight c f o).Noticed b := by
  refine (noticed_give_of_ne (Ne.symm h)).2 ?_
  split
  · exact (noticed_of_link (handOwn_link _ _)).2 given
  · exact given

theorem noticed_claimResult {c : Claim} {f : Flight} {o : ClaimOutcome} (level : s.link.level .claimResult ≠ .off) :
    (s.endFlight c f o).Noticed (.claimResult c.id c.serial c.key c.day f.attempts o) := by
  refine noticed_give ?_
  split
  · rw [(sameBut_handOwn _ _).level]
    exact level
  · exact level

theorem noticed_dropOldClaims {b : NoticeBody} (h : b.kind ≠ .claimResult) (given : s.Noticed b) :
    s.dropOldClaims.Noticed b := by
  obtain ⟨c, f, current, earlier⟩ | later := current_or_later s.permits s.today
  · rw [dropOldClaims_of_current s current earlier]
    exact noticed_endFlight s h given
  · rw [dropOldClaims_of_later s later]
    exact given

/-- R29, R111: the permit block after a change from a day to another. -/
def PermitBlock.onDay (p : PermitBlock) (day today : Nat) : PermitBlock := if day < today then p.fromDay today else p

theorem changeDay_of_later (h : s.day < s.today) : s.changeDay = (s.setDay s.today).dropOldClaims := by
  simp [State.changeDay, h, Nat.ne_of_gt h]

theorem changeDay_of_no_later (h : ¬ s.day < s.today) : s.changeDay = s.setDay s.today := by
  unfold State.changeDay
  split
  · next same => rw [same]; rfl
  · rfl

theorem onlyReports_changeDay :
    OnlyReports ((s.setDay s.today).setPermits (s.permits.onDay s.day s.today)) s.changeDay := by
  by_cases later : s.day < s.today
  · rw [changeDay_of_later s later, PermitBlock.onDay, if_pos later]
    exact onlyReports_dropOldClaims _
  · rw [changeDay_of_no_later s later, PermitBlock.onDay, if_neg later]
    exact .refl _

theorem noticed_changeDay {b : NoticeBody} (h : b.kind ≠ .claimResult) (given : s.Noticed b) : s.changeDay.Noticed b := by
  by_cases later : s.day < s.today
  · rw [changeDay_of_later s later]
    exact noticed_dropOldClaims _ h given
  · rw [changeDay_of_no_later s later]
    exact given

end Day

end Sys2Proof.Machine

/-! PROOF. An advance or a step of zone time delivered (R29): SET TIME, the counted second and TARIFF COMMIT, O8, O11 and
O13. -/

namespace Sys2Proof.Machine

/-! ### What a delivery leaves -/

/-- R98: the records that zone time reaches leave the table. -/
theorem retireDue_records (s : State) : s.retireDue.stay.entries.map StayEntry.record =
    (s.stay.entries.map StayEntry.record).filter fun x => decide (s.ret.clock.time < retireTime x) := by
  rw [List.filter_map]
  rfl

namespace SameButReports
variable {s t : State}

theorem setRound (h : SameButReports s t) (x : Option Round) : SameButReports (s.setRound x) (t.setRound x) :=
  { h with ret := ⟨t.ret.seq, by rw [setRound_ret, setRound_ret, h.ret_eq]⟩ }

theorem setDay (h : SameButReports s t) (n : Nat) : SameButReports (s.setDay n) (t.setDay n) := { h with day := rfl }

theorem retireOn (h : SameButReports s t) (forward : Bool) : SameButReports (s.retireOn forward) (t.retireOn forward) := by
  cases forward with
  | false => exact h
  | true =>
    exact { h with
      records := by rw [State.retireOn, if_pos rfl, retireDue_records, h.records, h.clock, ← retireDue_records]; rfl }

end SameButReports

section Deliver
variable (s : State) (forward : Bool)

/-- R29: the state that a delivery leaves but for reports, notices and frames. -/
def State.delivered : State :=
  ((((s.setRet s.ret.activated).retireOn forward).setRound s.ret.roundStanding).setDay s.today).setPermits
    (s.permits.onDay s.day s.today)

/-- R98: the store in which the records stand changes nothing else. -/
theorem retireOn_frame : ∃ es, s.retireOn forward = s.setEntries es := by
  cases forward
  · exact ⟨s.stay.entries, rfl⟩
  · exact ⟨_, rfl⟩

theorem activated_round : s.ret.activated.roundStanding = s.ret.roundStanding := by rw [activated_eq]; rfl

/-- R29, log 12: the state in which the day change is looked at. -/
def State.beforeDay : State := ((s.activateDue true).retireOn forward).expireRound

theorem sameBut_beforeDay : SameButReports (((s.setRet s.ret.activated).retireOn forward).setRound s.ret.roundStanding)
    (s.beforeDay forward) := by
  have retired := (sameBut_activateDue s true).retireOn forward
  obtain ⟨es, entries⟩ := retireOn_frame (s.activateDue true) forward
  have ret : ((s.activateDue true).retireOn forward).ret = { s.ret.activated with seq := (s.activateDue true).ret.seq } := by
    rw [entries]
    exact (sameBut_activateDue s true).ret_eq
  have standing : ((s.activateDue true).retireOn forward).ret.roundStanding = s.ret.roundStanding := by
    rw [ret, ← activated_round]
    rfl
  exact (retired.setRound s.ret.roundStanding).trans (standing ▸ (onlyReports_expireRound _).toSameButReports)

/-- R29: the day change reads the day, the claims and the notices' levels as they stood before the delivery. -/
theorem beforeDay_reads : (s.beforeDay forward).ret.clock = s.ret.clock ∧ (s.beforeDay forward).day = s.day ∧
    (s.beforeDay forward).permits = s.permits ∧ ∀ k, (s.beforeDay forward).link.level k = s.link.level k := by
  have same := sameBut_beforeDay s forward
  obtain ⟨es, entries⟩ := retireOn_frame (s.setRet s.ret.activated) forward
  rw [entries] at same
  refine ⟨same.clock.trans ?_, same.day, same.permits, same.level⟩
  show s.ret.activated.clock = s.ret.clock
  rw [activated_eq]

theorem sameBut_deliver : SameButReports (s.delivered forward) (s.deliver forward) := by
  obtain ⟨clock, day, permits, -⟩ := beforeDay_reads s forward
  have today : (s.beforeDay forward).today = s.today := congrArg (fun c : Clock => tariffDay c.time) clock
  have changed := (onlyReports_changeDay (s.beforeDay forward)).toSameButReports
  rw [today, day, permits] at changed
  exact (((sameBut_beforeDay s forward).setDay s.today).setPermits _).trans changed

theorem deliver_entry_eq (k : FaultKind) : ((s.deliver forward).faultEntry k).core =
    ((s.activateDue true).faultEntry k).core := by
  obtain ⟨es, entries⟩ := retireOn_frame (s.activateDue true) forward
  have changed := (onlyReports_changeDay (((s.activateDue true).retireOn forward).expireRound)).entry k
  have expired := (onlyReports_expireRound ((s.activateDue true).retireOn forward)).entry k
  refine changed.trans (expired.trans ?_)
  rw [entries]
  rfl

/-- R51: a delivery touches no condition but NO TARIFF and TARIFF BEHIND. -/
theorem deliver_entry_other {k : FaultKind} (noTariff : k ≠ .noTariff) (behind : k ≠ .tariffBehind) :
    ((s.deliver forward).faultEntry k).core = (s.faultEntry k).core :=
  (deliver_entry_eq s forward k).trans (activateDue_entry_other s true noTariff behind)

theorem deliver_entry_of_not_due (h : ∀ x, s.ret.awaiting = some x → s.ret.clock.time < x.activation) (k : FaultKind) :
    ((s.deliver forward).faultEntry k).core = (s.faultEntry k).core := by
  rw [deliver_entry_eq, activateDue_of_not_due h]

/-- R29: what is noticed of an activation, an expiry or a claim is noticed after the delivery. -/
theorem noticed_deliver {b : NoticeBody} (given : (s.activateDue true).Noticed b) (round : b.kind ≠ .roundChanged)
    (claim : b.kind ≠ .claimResult) : (s.deliver forward).Noticed b := by
  obtain ⟨es, entries⟩ := retireOn_frame (s.activateDue true) forward
  refine noticed_changeDay _ claim (noticed_expireRound _ round ?_)
  rw [entries]
  exact given

end Deliver

/-! ### The delivery as R29 states it -/

/-- What a delivery reads of the state before it. -/
structure SameDue (u s : State) : Prop where
  active : s.ret.active = u.ret.active
  awaiting : s.ret.awaiting = u.ret.awaiting
  round : s.ret.round = u.ret.round
  day : s.day = u.day
  permits : s.permits = u.permits
  level : ∀ k, s.link.level k = u.link.level k

theorem SameDue.of_sameBut {u v s : State} (h : SameDue u v) (k : SameButReports v s) : SameDue u s where
  active := by rw [k.ret_eq]; exact h.active
  awaiting := by rw [k.ret_eq]; exact h.awaiting
  round := k.round.trans h.round
  day := k.day.trans h.day
  permits := k.permits.trans h.permits
  level n := (k.level n).trans (h.level n)

theorem Delivered.congr {u s t : State} (h : Delivered s t) (k : SameDue u s) : Delivered u t where
  activated := by
    have := h.activated
    rwa [k.awaiting, k.level, k.active] at this
  standing := by
    have := h.standing
    rwa [k.awaiting, k.active] at this
  round := by rw [h.round, k.round]
  closed := by
    have := h.closed
    rwa [k.round, k.level] at this
  sameDay := by
    have := h.sameDay
    rwa [k.day, k.permits] at this
  newDay := by
    have := h.newDay
    rwa [k.day, k.permits] at this
  ended := by
    have := h.ended
    rwa [k.day, k.permits, k.level] at this

/-- What is done after a delivery, if it touches neither NO TARIFF nor the notices that the delivery gave, leaves it. -/
theorem Delivered.after {u t v : State} (h : Delivered u t) (ret : v.ret = { t.ret with seq := v.ret.seq })
    (permits : v.permits = t.permits) (noTariff : v.faultActive .noTariff = t.faultActive .noTariff)
    (noticed : ∀ b : NoticeBody, b.kind = .tariffSwitched ∨ b.kind = .roundChanged ∨ b.kind = .claimResult →
      t.Noticed b → v.Noticed b) : Delivered u v := by
  have clock : v.ret.clock = t.ret.clock := by rw [ret]
  have active : v.ret.active = t.ret.active := by rw [ret]
  have awaiting : v.ret.awaiting = t.ret.awaiting := by rw [ret]
  have round : v.ret.round = t.ret.round := by rw [ret]
  constructor <;> simp only [clock, active, awaiting, round, permits, noTariff]
  case activated =>
    intro x pending due
    obtain ⟨switched, none, clear, given⟩ := h.activated x pending due
    exact ⟨switched, none, clear, fun level => noticed _ (.inl rfl) (given level)⟩
  case standing => exact h.standing
  case round => exact h.round
  case closed => exact fun r held isOpen expired level => noticed _ (.inr (.inl rfl)) (h.closed r held isOpen expired level)
  case sameDay => exact h.sameDay
  case newDay => exact h.newDay
  case ended =>
    intro later c f current earlier
    obtain ⟨flight, claims, given⟩ := h.ended later c f current earlier
    exact ⟨flight, claims, fun level => noticed _ (.inr (.inr rfl)) (given level)⟩

theorem Delivered.settle {u t : State} (h : Delivered u t) : Delivered u t.settle :=
  h.after rfl rfl rfl fun _ _ => noticed_settle.2

theorem Delivered.respond {u t : State} (h : Delivered u t) (code : Nat) (a : Answer) : Delivered u (t.respond code a) :=
  h.after rfl rfl rfl fun _ _ => noticed_respond.2

theorem delivered_clock (s : State) (forward : Bool) : (s.deliver forward).ret.clock = s.ret.clock := by
  obtain ⟨es, entries⟩ := retireOn_frame (s.setRet s.ret.activated) forward
  rw [(sameBut_deliver s forward).clock, State.delivered, entries]
  show s.ret.activated.clock = s.ret.clock
  rw [activated_eq]

theorem deliver_tariff (s : State) (forward : Bool) : (s.deliver forward).ret.active = s.ret.activated.active ∧
    (s.deliver forward).ret.awaiting = s.ret.activated.awaiting := by
  obtain ⟨es, entries⟩ := retireOn_frame (s.setRet s.ret.activated) forward
  rw [(sameBut_deliver s forward).ret_eq, State.delivered, entries]
  exact ⟨rfl, rfl⟩

/-- R29: a delivery at the time as it stands. -/
theorem delivered_deliver (s : State) (forward : Bool) : Delivered s (s.deliver forward) := by
  have clock := delivered_clock s forward
  have same := sameBut_deliver s forward
  obtain ⟨active, awaiting⟩ := deliver_tariff s forward
  have permits : (s.deliver forward).permits = s.permits.onDay s.day s.today := same.permits
  have today : s.today = s.ret.clock.time / 86400 := rfl
  constructor
  case activated =>
    intro x pending due
    rw [clock] at due ⊢
    rw [active, awaiting, activated_of_due pending due]
    have switched := activateDue_of_due pending due true
    refine ⟨rfl, rfl, ?_, fun level => noticed_deliver s forward ?_ nofun nofun⟩
    · refine (congrArg FaultEntry.active (deliver_entry_eq s forward .noTariff) : _).trans ?_
      rw [switched]
      exact activate_noTariff s true x
    · rw [switched]
      exact noticed_activate s true x level
  case standing =>
    intro early
    rw [clock] at early
    rw [active, awaiting, activated_of_not_due early]
    exact ⟨rfl, rfl⟩
  case round => rw [clock]; exact same.round
  case closed =>
    intro r round isOpen expired level
    rw [clock] at expired
    obtain ⟨es, entries⟩ := retireOn_frame (s.activateDue true) forward
    have due := sameBut_activateDue s true
    refine noticed_changeDay _ nofun (noticed_expired _ ?_ isOpen ?_ ?_)
    all_goals rw [entries]
    · refine due.round.trans ?_
      rw [setRet_ret, activated_eq]
      exact round
    · have same : ((s.activateDue true).setEntries es).ret.clock = s.ret.clock := by
        refine due.clock.trans ?_
        rw [setRet_ret, activated_eq]
      rw [same]
      exact expired
    · exact fun off => level ((due.level _).symm.trans off)
  case sameDay =>
    intro notLater
    rw [clock, ← today] at notLater
    rw [permits, PermitBlock.onDay, if_neg (Nat.not_lt.2 notLater)]
  case newDay =>
    intro later current
    rw [clock, ← today] at later current ⊢
    rw [permits, PermitBlock.onDay, if_pos later, fromDay_of_later current]
  case ended =>
    intro later c f current earlier
    rw [clock, ← today] at later earlier ⊢
    rw [permits, PermitBlock.onDay, if_pos later, fromDay_of_current current earlier]
    refine ⟨rfl, rfl, fun level => ?_⟩
    obtain ⟨clock', day', permits', level'⟩ := beforeDay_reads s forward
    have today' : (s.beforeDay forward).today = s.today := congrArg (fun c : Clock => tariffDay c.time) clock'
    have changes : s.deliver forward = ((s.beforeDay forward).setDay s.today).dropOldClaims := by
      rw [← today']
      exact changeDay_of_later (s.beforeDay forward) (by rw [day', today']; exact later)
    rw [changes, dropOldClaims_of_current (c := c) (f := f) _ (by rw [setDay_permits, permits']; exact current)
      (by show c.day < (s.beforeDay forward).today; rw [today']; exact earlier)]
    have outcome : ((s.beforeDay forward).setDay s.today).today = s.today := today'
    rw [outcome]
    exact noticed_claimResult _ fun off => level ((level' _).symm.trans off)

/-! ### The counted second (R26, R39) -/

theorem deliver_records (s : State) : (s.deliver true).stay.entries.map StayEntry.record =
    (s.stay.entries.map StayEntry.record).filter fun x => decide (s.ret.clock.time < retireTime x) := by
  refine (sameBut_deliver s true).records.trans ?_
  have clock : (s.setRet s.ret.activated).ret.clock = s.ret.clock := by rw [setRet_ret, activated_eq]
  exact (retireDue_records _).trans (by rw [clock]; rfl)

theorem deliver_day (s : State) (forward : Bool) : (s.deliver forward).day = (s.deliver forward).ret.clock.time / 86400 := by
  rw [delivered_clock, (sameBut_deliver s forward).day]
  rfl

/-- R29: a delivery touches no other block. -/
structure DeliveryFrame (s t : State) : Prop where
  chan : ∃ q, t.chan = { s.chan with queue := q }
  box : t.ret.box = s.ret.box
  door : t.ret.door = s.ret.door
  blockList : t.ret.blockList = s.ret.blockList
  cash : t.cash = s.cash
  liveness : t.faults.liveness = s.faults.liveness
  staging : t.staging = s.staging
  walk : t.walk = s.walk
  supply : t.supply = s.supply

theorem deliver_frame (s : State) (forward : Bool) : DeliveryFrame s (s.deliver forward) := by
  have same := sameBut_deliver s forward
  obtain ⟨es, entries⟩ := retireOn_frame (s.setRet s.ret.activated) forward
  rw [State.delivered, entries, activated_eq] at same
  have ret := same.ret_eq
  exact ⟨same.chan, by rw [ret]; rfl, by rw [ret]; rfl, by rw [ret]; rfl, same.cash, same.liveness, same.staging, same.walk,
    same.supply⟩

/-- Settles O11. -/
theorem secondCountAdvances : Obligations.SecondCountAdvances := by
  intro s power
  let c : Clock := { s.ret.clock with time := min (s.ret.clock.time + 1) zoneTimeMax }
  have step : exec .secondCount s = .next (((s.tickTimers.setClock c).deliver true).settle) := by
    simp only [exec, execSecondCount, power, if_true]
    rfl
  have clock : ((s.tickTimers.setClock c).deliver true).ret.clock = c := delivered_clock _ true
  have frame := deliver_frame (s.tickTimers.setClock c) true
  obtain ⟨q, chan⟩ := frame.chan
  have delivered : Delivered s.tickTimers ((s.tickTimers.setClock c).deliver true) :=
    (delivered_deliver _ true).congr ⟨rfl, rfl, rfl, rfl, rfl, fun _ => rfl⟩
  have refreshed (k : FaultKind)
      (core : (((s.tickTimers.setClock c).deliver true).faultEntry k).core = (s.tickTimers.faultEntry k).core) :
      (((s.tickTimers.setClock c).deliver true).faultEntry k).refresh = tick (s.faultEntry k).refresh := by
    refine (congrArg FaultEntry.refresh core : _).trans ?_
    rw [core_refresh, faultEntry_tickTimers]
    rfl
  refine ⟨_, step, clock, ?_, frame.liveness, ?_, deliver_day _ true, ?_, ?_, frame.cash, ?_, ?_, ?_, ?_, delivered.settle,
    frame.box, frame.door, frame.blockList, frame.staging, frame.walk, frame.supply⟩
  · exact congrArg ChannelBlock.statusTimer chan
  · exact congrArg CashBlock.doorTimer frame.cash
  · exact congrArg ChannelBlock.duplicateTimer chan
  · exact congrArg ChannelBlock.neighbours chan
  · exact fun k noTariff behind => refreshed k (deliver_entry_other _ true noTariff behind)
  · intro early k
    refine refreshed k (deliver_entry_of_not_due _ true (fun x awaiting => ?_) k)
    have := early x awaiting
    rwa [settle_ret, clock] at this
  · intro sameDay
    have kept := delivered.sameDay (Nat.le_of_eq sameDay)
    exact ⟨congrArg PermitBlock.claims kept, congrArg PermitBlock.flight kept⟩
  · rw [settle_ret, clock]
    exact deliver_records _

/-! ### SET TIME (R36) -/

/-- R35: the state in which a time step is delivered: the clock set, the disputes and their conditions cleared. -/
def State.stepped (s : State) (time epoch : Nat) : State :=
  (((s.setClock { time, epoch, set := true }).clear .timeUnset).clearDisputes).clear .clockDisagree

theorem SameButReports.clearDisputes {s t : State} (h : SameButReports s t) :
    SameButReports s.clearDisputes t.clearDisputes := by
  obtain ⟨q, chan⟩ := h.chan
  refine { h with chan := ⟨t.chan.queue, ?_⟩ }
  simp only [State.clearDisputes, setChan_chan, chan]

section Stepped
variable (s : State) (time epoch : Nat)

theorem sameBut_stepped : SameButReports (s.setClock { time, epoch, set := true }).clearDisputes (s.stepped time epoch) :=
  (sameBut_clear _ .timeUnset).clearDisputes.trans (sameBut_clear _ .clockDisagree)

theorem stepped_timeUnset : (s.stepped time epoch).faultActive .timeUnset = false :=
  (clearIf_active_other (by decide) _ true).trans (clearIf_inactive (s.setClock { time, epoch, set := true }) true .timeUnset)

theorem stepped_clockDisagree : (s.stepped time epoch).faultActive .clockDisagree = false := clearIf_inactive _ _ _

/-- R35: what a step reaches it delivers, and gives notice of itself. -/
theorem sameBut_timeStep (cause : StepCause) : OnlyReports ((s.stepped time epoch).deliver (decide (s.now ≤ time)))
    (s.timeStep cause time epoch) := onlyReports_give _ _

theorem timeStep_clock (cause : StepCause) : (s.timeStep cause time epoch).ret.clock = { time, epoch, set := true } := by
  rw [(sameBut_timeStep s time epoch cause).clock, delivered_clock, (sameBut_stepped s time epoch).clock]
  rfl

theorem timeStep_active (cause : StepCause) : (s.timeStep cause time epoch).faultActive .timeUnset = false ∧
    (s.timeStep cause time epoch).faultActive .clockDisagree = false := by
  have given := sameBut_timeStep s time epoch cause
  refine ⟨(given.active _).trans ?_, (given.active _).trans ?_⟩
  · exact (congrArg FaultEntry.active (deliver_entry_other (s.stepped time epoch) _ (k := .timeUnset) nofun nofun) : _).trans
      (stepped_timeUnset s time epoch)
  · exact (congrArg FaultEntry.active (deliver_entry_other (s.stepped time epoch) _ (k := .clockDisagree) nofun nofun) :
      _).trans
      (stepped_clockDisagree s time epoch)

theorem delivered_timeStep (cause : StepCause) : Delivered s (s.timeStep cause time epoch) := by
  have due : SameDue s (s.stepped time epoch) :=
    SameDue.of_sameBut (v := (s.setClock { time, epoch, set := true }).clearDisputes) ⟨rfl, rfl, rfl, rfl, rfl, fun _ => rfl⟩
      (sameBut_stepped s time epoch)
  have given := sameBut_timeStep s time epoch cause
  refine ((delivered_deliver _ _).congr due).after given.ret_eq given.permits (given.active _) fun b kind => ?_
  have other : (NoticeBody.timeStepped cause s.now s.ret.clock.epoch time epoch).kind ≠ b.kind := by
    intro e
    rw [← e] at kind
    rcases kind with k | k | k <;> cases k
  exact (noticed_give_of_ne other).2

theorem timeStep_records (cause : StepCause) :
    (s.now ≤ time → (s.timeStep cause time epoch).stay.entries.map StayEntry.record =
      (s.stay.entries.map StayEntry.record).filter fun x => decide (time < retireTime x)) ∧
    (time < s.now → (s.timeStep cause time epoch).stay.entries.map StayEntry.record = s.stay.entries.map StayEntry.record) := by
  have given := (sameBut_timeStep s time epoch cause).records
  have before : (s.stepped time epoch).stay.entries.map StayEntry.record = s.stay.entries.map StayEntry.record :=
    (sameBut_stepped s time epoch).records
  have clock : (s.stepped time epoch).ret.clock.time = time := by rw [(sameBut_stepped s time epoch).clock]; rfl
  constructor
  · intro forward
    rw [given, decide_eq_true forward, deliver_records, before, clock]
  · intro backward
    rw [given, decide_eq_false (Nat.not_le.2 backward), (sameBut_deliver _ false).records]
    exact before

/-- R35: a step touches no other block, and clears every dispute. -/
theorem timeStep_frame (cause : StepCause) : DeliveryFrame s.clearDisputes (s.timeStep cause time epoch) := by
  have frame := deliver_frame (s.stepped time epoch) (decide (s.now ≤ time))
  have given := sameBut_timeStep s time epoch cause
  have stepped := sameBut_stepped s time epoch
  obtain ⟨q, chan⟩ := frame.chan
  obtain ⟨q', chan'⟩ := given.chan
  obtain ⟨q'', chan''⟩ := stepped.chan
  have ret := given.ret_eq
  have ret' := stepped.ret_eq
  constructor
  case chan => exact ⟨q', by rw [chan', chan, chan'']; rfl⟩
  case box => rw [ret]; exact frame.box.trans (by rw [ret']; rfl)
  case door => rw [ret]; exact frame.door.trans (by rw [ret']; rfl)
  case blockList => rw [ret]; exact frame.blockList.trans (by rw [ret']; rfl)
  case cash => exact given.cash.trans (frame.cash.trans stepped.cash)
  case liveness => exact given.liveness.trans (frame.liveness.trans stepped.liveness)
  case staging => exact given.staging.trans (frame.staging.trans stepped.staging)
  case walk => exact given.walk.trans (frame.walk.trans stepped.walk)
  case supply => exact given.supply.trans (frame.supply.trans stepped.supply)

theorem timeStep_day (cause : StepCause) : (s.timeStep cause time epoch).day = time / 86400 := by
  have clock : (s.stepped time epoch).ret.clock.time = time := by rw [(sameBut_stepped s time epoch).clock]; rfl
  rw [(sameBut_timeStep s time epoch cause).day, deliver_day, delivered_clock, clock]

end Stepped

/-- Settles O8. -/
theorem setTimeSteps : Obligations.SetTimeSteps := by
  intro s z free inRange
  have blocks := sameBlocks_holding (soundFrame (.setTime z)) free.heard
  have link := holding_link (soundFrame (.setTime z)) free.heard
  generalize held : s.holding (soundFrame (.setTime z)) = v at blocks link
  have clock : v.ret.clock = s.ret.clock := by rw [blocks.ret]
  have now : v.now = s.ret.clock.time := congrArg Clock.time clock
  let epoch := (s.ret.clock.epoch + 1) % 256
  let u := (v.timeStep .set z epoch).queueStatus
  have queued := onlyReports_queueStatus (v.timeStep .set z epoch)
  have examined : (s.holding (soundFrame (.setTime z))).examine (soundFrame (.setTime z)) =
      (u, some (.done (.timeSet s.ret.clock { time := z, epoch, set := true }))) := by
    rw [held, examine_of_sound rfl]
    simp [State.examineContent, soundFrame, requestCode, takenBeforeStart, State.handle, atOnce,
      reqSetTime, Nat.not_lt.2 inRange, clock, u, epoch, byteSpan]
  have step : exec (.setTime z) s =
      .next (u.respond 4 (.done (.timeSet s.ret.clock { time := z, epoch, set := true }))).settle := by
    have written := writeFrame_of_examine free (goodRestart_soundFrame (q := .setTime z) nofun) examined
    exact (exec_commandOf_of_power free.power (.setTime z)).trans (by rw [written]; rfl)
  have due : SameDue s v := by
    refine ⟨?_, ?_, ?_, blocks.day, blocks.permits, fun k => ?_⟩
    · rw [blocks.ret]
    · rw [blocks.ret]
    · rw [blocks.ret]
    · simp [MachineLink.level, link]
  have delivered : Delivered s u := ((delivered_timeStep v z epoch .set).congr due).after queued.ret_eq queued.permits
    (queued.active _) fun _ _ => (noticed_of_link (queueStatus_link _)).2
  obtain ⟨unset, disagree⟩ := timeStep_active v z epoch .set
  have frame := timeStep_frame v z epoch .set
  obtain ⟨q, chan⟩ := frame.chan
  obtain ⟨q', chan'⟩ := queued.chan
  obtain ⟨forward, backward⟩ := timeStep_records v z epoch .set
  have records : u.stay.entries.map StayEntry.record = (v.timeStep .set z epoch).stay.entries.map StayEntry.record :=
    queued.records
  have ret := queued.ret_eq
  refine ⟨_, step, ?_, ?_, ?_, ?_, (delivered.respond 4 _).settle, ?_, ?_, ?_, answered_respond_settle _ _ _, ?_, ?_, ?_,
      ?_, ?_,
    ?_, ?_⟩
  · exact queued.clock.trans (timeStep_clock v z epoch .set)
  · have neighbours : u.chan.neighbours = v.chan.neighbours.map fun e => { e with disputed := false } := by
      rw [chan', chan]; rfl
    intro e mem
    have mem : e ∈ u.chan.neighbours := mem
    rw [neighbours] at mem
    obtain ⟨e', -, rfl⟩ := List.mem_map.1 mem
    rfl
  · exact (queued.active .timeUnset).trans unset
  · exact (queued.active .clockDisagree).trans disagree
  · exact fun le => records.trans ((forward (by rw [now]; exact le)).trans (by rw [blocks.stay]))
  · exact fun lt => records.trans ((backward (by rw [now]; exact lt)).trans (by rw [blocks.stay]))
  · exact queued.day.trans (timeStep_day v z epoch .set)
  · exact queued.box.trans (frame.box.trans (congrArg Retained.box blocks.ret))
  · exact queued.door.trans (frame.door.trans (congrArg Retained.door blocks.ret))
  · exact (congrArg Retained.blockList ret).trans (frame.blockList.trans (congrArg Retained.blockList blocks.ret))
  · exact queued.cash.trans (frame.cash.trans blocks.cash)
  · exact queued.staging.trans (frame.staging.trans blocks.staging)
  · exact queued.supply.trans (frame.supply.trans blocks.supply)
  · have timer : u.chan.statusTimer = v.chan.statusTimer := by rw [chan', chan]; rfl
    exact timer.trans (congrArg ChannelBlock.statusTimer blocks.chan)

/-! ### TARIFF COMMIT (R47 to R49, R51) -/

/-- R47: only an empty staging area is refused with nothing staged. -/
theorem staging_of_nothingStaged {st : List Host.Cell} (h : readStaged st = .error .nothingStaged) : st = [] := by
  unfold readStaged at h
  split at h
  · next empty => exact List.isEmpty_iff.1 empty
  dsimp only at h
  repeat' split at h
  all_goals cases h

/-- R47: an image that cannot be read empties staging. -/
theorem reqTariffCommit_of_unread {s : State} {reason : Reason} (h : readStaged s.staging = .error reason) :
    reqTariffCommit s = (s.setStaging [], .refuse reason) := by
  unfold reqTariffCommit
  split
  · next nothing =>
    obtain rfl : Reason.nothingStaged = reason := by rw [nothing] at h; cases h; rfl
    rw [← staging_of_nothingStaged nothing]
    rfl
  · next r _ e =>
    obtain rfl : r = reason := by rw [e] at h; cases h; rfl
    rfl
  · next e => rw [e] at h; cases h

/-- R48: a valid image's table has the activation time that the image gives. -/
theorem validate_activation {i : RawImage} {active : Option TariffName} {t : TariffTable} (h : validate i active = .ok t) :
    t.activation = i.activation := by
  unfold validate at h
  repeat' split at h
  all_goals cases h
  rfl

/-- R49: the state in which a valid image's table is the pending one. -/
def State.awaitingTable (s : State) (x : TariffTable) : State := (s.setStaging []).setRet { s.ret with awaiting := some x }

/-- R49, R51: a valid image's table waits for its activation time, or is active at once. -/
theorem reqTariffCommit_of_valid {s : State} {image : RawImage} {table : TariffTable} (staged :
    readStaged s.staging = .ok image)
    (valid : validate image (s.ret.active.map TariffTable.name) = .ok table) {x : TariffTable}
    (resolved : x = { table with activation := resolveActivation image.activation s.ret.clock.time }) :
    (s.ret.clock.time < x.activation → reqTariffCommit s =
      (s.awaitingTable x, .done (.committed false table.name (some x.activation)))) ∧
    (x.activation ≤ s.ret.clock.time → reqTariffCommit s =
      ((s.awaitingTable x).activate true x, .done (.committed true table.name none))) := by
  have same : table.resolved s.now = x := by
    rw [resolved, TariffTable.resolved, validate_activation valid]
    rfl
  constructor
  · intro later
    have later : ¬ x.activation ≤ s.now := Nat.not_le.2 later
    simp [reqTariffCommit, staged, valid, same, later, State.awaitingTable]
    rw [resolved]
  · intro due
    have due : x.activation ≤ s.now := due
    simp [reqTariffCommit, staged, valid, same, due, State.awaitingTable]
    rw [resolved]

/-- Settles O13. -/
theorem tariffCommitResolves : Obligations.TariffCommitResolves := by
  intro s r free
  have idle : (s.taking r .tariffCommit).walk = none := free.isOpen.walk
  have blocks := sameBlocks_taking s r .tariffCommit
  refine ⟨fun reason unread => ?unread, fun image reason p staged invalid => ?invalid,
    fun image table staged valid later => ?awaits, fun image table staged valid due => ?activates⟩
  case unread =>
    have handled := reqTariffCommit_of_unread (s := s.taking r .tariffCommit) unread
    obtain ⟨t, step, answered, walk, same⟩ := answered_at_once (q := .tariffCommit) free nofun (congrArg atOnce handled) idle
      (blocks.setStaging [])
    exact ⟨t, step, answered, walk, same.staging, same⟩
  case invalid =>
    have handled : reqTariffCommit (s.taking r .tariffCommit) =
        ((s.taking r .tariffCommit).setStaging [], .refuse reason (.position p)) := by
      have staged : readStaged (s.taking r .tariffCommit).staging = .ok image := staged
      have invalid : validate image ((s.taking r .tariffCommit).ret.active.map TariffTable.name) = .error (reason,
          p) := invalid
      simp only [reqTariffCommit, staged, invalid]
    exact answered_at_once (q := .tariffCommit) free nofun (congrArg atOnce handled) idle (blocks.setStaging [])
  case awaits =>
    have handled := (reqTariffCommit_of_valid (s := s.taking r .tariffCommit) staged valid rfl).1 later
    obtain ⟨t, step, answered, walk, same⟩ := answered_at_once (q := .tariffCommit) free nofun (congrArg atOnce handled) idle
      ((blocks.setStaging []).setRet _)
    exact ⟨t, step, same.ret, same.staging, walk, same.chan, same.stay, same.permits, same.cash, answered⟩
  case activates =>
    let x : TariffTable := { table with activation := resolveActivation image.activation s.ret.clock.time }
    have handled : reqTariffCommit (s.taking r .tariffCommit) = (((s.taking r .tariffCommit).awaitingTable x).activate true x,
        .done (.committed true table.name none)) :=
      (reqTariffCommit_of_valid (s := s.taking r .tariffCommit) (x := x) staged valid rfl).2 due
    have clear := activate_noTariff ((s.taking r .tariffCommit).awaitingTable x) true x
    have same := sameBut_activate ((s.taking r .tariffCommit).awaitingTable x) true x
    have ret := same.ret_eq
    have step := exec_commandOf_of_handle (q := .tariffCommit) free nofun (congrArg atOnce handled)
    generalize (((s.taking r .tariffCommit).awaitingTable x).activate true x) = u at clear same ret step
    exact ⟨_, step, congrArg Retained.awaiting ret, same.staging, congrArg Retained.active ret, clear, same.clock,
      same.permits, same.cash, answered_respond_settle _ _ _⟩

end Sys2Proof.Machine

/-! PROOF. The transmit queue: its head, what gives way, and the end of a transmission: O42 and O43. -/

namespace Sys2Proof.Machine

/-! ### The queue head (R8) -/

theorem classBand_injective : Function.Injective classBand :=
  Function.LeftInverse.injective (g := fun n => [FrameClass.urgent, .claim, .record, .bulk].getD n .urgent) fun c => by
    cases c <;> rfl

theorem eldest_cls {q : List TxEntry} {c : FrameClass} {e : TxEntry} (h : eldest q c = some e) : e.cls = c := by
  have := List.find?_some h
  simp only [Bool.and_eq_true, decide_eq_true_eq] at this
  exact this.1

/-- R8: the queue head is the earliest of its class, and no higher class has a waiting entry. -/
theorem queueHead_eq_some {q : List TxEntry} {e : TxEntry} : queueHead q = some e ↔
    eldest q e.cls = some e ∧ ∀ c, classBand c < classBand e.cls → eldest q c = none := by
  unfold queueHead
  simp only [Option.or_eq_some_iff]
  constructor
  · rintro (h | ⟨u, h | ⟨v, h | ⟨w, h⟩⟩⟩)
    all_goals
      have cls := eldest_cls h
      rw [cls]
      refine ⟨h, fun c higher => ?_⟩
      cases c <;> simp_all [classBand]
  · rintro ⟨h, higher⟩
    cases cls : e.cls <;> rw [cls] at h higher
    · exact .inl h
    · exact .inr ⟨higher .urgent (by decide), .inl h⟩
    · exact .inr ⟨higher .urgent (by decide), .inr ⟨higher .claim (by decide), .inl h⟩⟩
    · exact .inr ⟨higher .urgent (by decide), .inr ⟨higher .claim (by decide), .inr ⟨higher .record (by decide), h⟩⟩⟩

theorem eldest_eq_none {q : List TxEntry} {c : FrameClass} :
    eldest q c = none ↔ ∀ x ∈ q, x.sending = false → x.cls ≠ c := by
  simp only [eldest, List.find?_eq_none, Bool.and_eq_true, decide_eq_true_eq, Bool.not_eq_true', not_and]
  exact forall₂_congr fun x _ => ⟨fun h waits cls => h cls waits, fun h cls waits => h waits cls⟩

/-- R8: the queue head by its place in the queue. -/
theorem queueHead_iff (q : List TxEntry) (e : TxEntry) : queueHead q = some e ↔ e.sending = false ∧
    ∃ before after, q = before ++ e :: after ∧
      (∀ x ∈ before, x.sending = false → classBand e.cls < classBand x.cls) ∧
      ∀ x ∈ after, x.sending = false → classBand e.cls ≤ classBand x.cls := by
  rw [queueHead_eq_some]
  constructor
  · rintro ⟨found, higher⟩
    have low (x : TxEntry) (mem : x ∈ q) (waits : x.sending = false) : classBand e.cls ≤ classBand x.cls :=
      Nat.not_lt.1 fun lt => eldest_eq_none.1 (higher x.cls lt) x mem waits rfl
    obtain ⟨test, before, after, rfl, first⟩ := List.find?_eq_some_iff_append.1 found
    simp only [Bool.and_eq_true, Bool.not_eq_true', decide_true, true_and] at test
    refine ⟨test, before, after, rfl, fun x mem waits => ?_, fun x mem waits => low x (by simp [mem]) waits⟩
    have other : x.cls ≠ e.cls := by simpa [waits] using first x mem
    exact Nat.lt_of_le_of_ne (low x (by simp [mem]) waits) fun same => other (classBand_injective same).symm
  · rintro ⟨waits, before, after, rfl, first, later⟩
    constructor
    · refine List.find?_eq_some_iff_append.2 ⟨by simp [waits], before, after, rfl, fun x mem => ?_⟩
      by_cases sending : x.sending = true
      · simp [sending]
      · have lt := first x mem (by simpa using sending)
        have other : x.cls ≠ e.cls := fun same => absurd lt (by rw [same]; exact Nat.lt_irrefl _)
        simp [other]
    · refine fun c lt => eldest_eq_none.2 fun x mem waits cls => ?_
      subst cls
      rw [List.mem_append, List.mem_cons] at mem
      rcases mem with mem | rfl | mem
      · exact absurd (first x mem waits) (Nat.not_lt.2 (Nat.le_of_lt lt))
      · exact absurd lt (Nat.lt_irrefl _)
      · exact absurd (later x mem waits) (Nat.not_le.2 lt)

/-- R174: bytes that carry their check are right. -/
theorem checkRight_withCheck (bs : List Byte) : checkRight (withCheck bs) = true := by
  simp only [checkRight, beforeCheck_withCheck]
  simp only [withCheck, List.length_append, length_toBytes, Nat.add_sub_cancel, List.drop_left, decide_eq_true_eq]
  exact ⟨Nat.le_add_left _ _, bigEndian_toBytes (k := 2) (checkOf _).isLt⟩

/-- R5: in a slot that has not passed in the present window, the own slot alone begins a transmission. -/
theorem slotBegins_of_window {s : State} {r : Running} {l : Option Nat} {slot : Nat} {e : TxEntry}
    (running : s.link.running = some r) (window : s.chan.phase = .window l) (inWindow : slot ≤ 123)
    (ahead : ∀ x, l = some x → x < slot) (head : queueHead s.chan.queue = some e) :
    s.slotBegins slot =
      if slot = ownSlot e.cls r.number && mayContend r.config.mode s.chan.spent e.cls then
        (s.setChan { s.chan with phase := .window (some slot) }).beginSending r e
      else s.setChan { s.chan with phase := .window (some slot) } := by
  have notPassed : ¬ (123 < slot ∨ l.any (fun x => decide (slot ≤ x)) = true) := by
    rintro (outside | passed)
    · omega
    · obtain ⟨x, rfl, le⟩ := (Option.any_eq_true _ _).1 passed
      exact absurd (ahead x rfl) (Nat.not_lt.2 (of_decide_eq_true le))
  simp only [State.slotBegins, window, running, notPassed, if_false, head]

/-- Settles O42. -/
theorem contentionSlotTransmits : Obligations.ContentionSlotTransmits := by
  refine ⟨queueHead_iff, fun f => checkRight_withCheck _, fun s r l slot e power running window inWindow ahead head => ?_⟩
  have begins := slotBegins_of_window running window inWindow ahead head
  have step : exec (.contentionSlot slot) s = .next (s.slotBegins slot).settle :=
    congrArg Host.Outcome.next (whilePowered_of_power power _)
  refine ⟨fun own may => ?sends, fun idle => ?waits⟩
  case sends =>
    have contends : (decide (slot = ownSlot e.cls r.number) && mayContend r.config.mode s.chan.spent e.cls) = true := by
      rw [Bool.and_eq_true, decide_eq_true_eq]
      refine ⟨own, ?_⟩
      by_cases spent : r.config.mode = .fair ∧ s.chan.spent = true
      · simp [mayContend, may spent]
      · simp only [mayContend, Bool.or_eq_true, Bool.not_eq_true', Bool.and_eq_false_iff, decide_eq_false_iff_not]
        exact .inl ((not_and_or.1 spent).imp id (by simp))
    rw [if_pos contends] at begins
    rw [begins] at step
    exact ⟨_, step, rfl, rfl, rfl, rfl, rfl, rfl, rfl, rfl, rfl⟩
  case waits =>
    have idles : ¬ (decide (slot = ownSlot e.cls r.number) && mayContend r.config.mode s.chan.spent e.cls) = true := by
      rw [Bool.and_eq_true, decide_eq_true_eq]
      rintro ⟨own, may⟩
      rcases idle with other | ⟨fair, spent, low⟩
      · exact other own
      · simp [mayContend, fair, spent, low] at may
    rw [step, begins, if_neg idles]

/-! ### What gives way (R10) -/

/-- R10: the youngest of a class is the one behind which no other of the class waits. -/
theorem youngest_of_last {before after : List TxEntry} {v : TxEntry} (waits : v.sending = false)
    (last : ∀ e ∈ after, e.cls = v.cls → e.sending = true) : youngest (before ++ v :: after) v.cls = some v := by
  have none : after.filter (fun e => decide (e.cls = v.cls) && !e.sending) = [] :=
    List.filter_eq_nil_iff.2 fun e mem => by
      simp only [Bool.and_eq_true, decide_eq_true_eq, Bool.not_eq_true', not_and, Bool.not_eq_false]
      exact last e mem
  simp [youngest, List.filter_append, waits, none]

theorem youngest_eq_none {q : List TxEntry} {c : FrameClass} :
    youngest q c = none ↔ ∀ e ∈ q, e.cls = c → e.sending = true := by
  simp only [youngest, List.getLast?_eq_none_iff, List.filter_eq_nil_iff, Bool.and_eq_true, decide_eq_true_eq,
    Bool.not_eq_true', not_and, Bool.not_eq_false]

/-- R10, log 51: the youngest BULK entry gives way, and with none of them waiting the youngest RECORD entry. -/
theorem victim_of_last {before after : List TxEntry} {v : TxEntry} (waits : v.sending = false)
    (low : v.cls = .bulk ∨ (v.cls = .record ∧ ∀ e ∈ before ++ v :: after, e.cls = .bulk → e.sending = true))
    (last : ∀ e ∈ after, e.cls = v.cls → e.sending = true) : victim (before ++ v :: after) = some v := by
  have youngest := youngest_of_last (before := before) waits last
  rcases low with bulk | ⟨record, none⟩
  · rw [bulk] at youngest
    simp [victim, youngest]
  · rw [record] at youngest
    simp [victim, youngest, youngest_eq_none.2 none]

theorem victim_eq_none {q : List TxEntry} (h : ∀ e ∈ q, e.sending = true ∨ e.cls = .urgent ∨ e.cls = .claim) :
    victim q = none := by
  have none (c : FrameClass) (low : c = .bulk ∨ c = .record) : youngest q c = none :=
    youngest_eq_none.2 fun e mem cls => (h e mem).resolve_right fun high => by
      rcases low with rfl | rfl <;> rcases high with e' | e' <;> cases cls.symm.trans e'
  simp [victim, none .bulk (.inl rfl), none .record (.inr rfl)]

theorem erase_of_nodup {before after : List TxEntry} {v : TxEntry} (h : (before ++ v :: after).Nodup) :
    (before ++ v :: after).erase v = before ++ after := by
  have absent : v ∉ before := fun mem => (List.nodup_append.1 h).2.2 v mem v (by simp) rfl
  rw [List.erase_append_right _ absent, List.erase_cons_head]

/-- R92: an evicted RECORD STAY frame leaves its records unannounced. -/
theorem onEvicted_stay {s : State} {v : TxEntry} {x : StayRecord} (own : v.copy = false) (body : v.body = .stay [x] false) :
    ∀ e ∈ (s.onEvicted v).stay.entries, e.record.id = x.id → e.record.extensions = x.extensions → e.unannounced = true := by
  intro e mem id extensions
  have marked : (s.onEvicted v).stay.entries = s.stay.entries.map fun y =>
      if [x].any (fun r => decide (r.id = y.record.id ∧ r.extensions = y.record.extensions)) then
        { y with unannounced := true } else y := by
    simp [State.onEvicted, own, body]
  rw [marked] at mem
  obtain ⟨y, -, rfl⟩ := List.mem_map.1 mem
  by_cases carried : [x].any (fun r => decide (r.id = y.record.id ∧ r.extensions = y.record.extensions)) = true
  · rw [if_pos carried]
  · rw [if_neg carried] at id extensions
    exact absurd (by simp [id, extensions]) carried

/-! ### A completed transmission (R7) -/

/-- R7: what a completion does at the block that handed the frame touches marks and the claim in flight alone. -/
structure CompletionFrame (s t : State) : Prop where
  chan : t.chan = s.chan
  ret : t.ret = s.ret
  faults : t.faults = s.faults
  cash : t.cash = s.cash
  claims : t.permits.claims = s.permits.claims
  records : t.stay.entries.map StayEntry.record = s.stay.entries.map StayEntry.record

theorem completionFrame_refl (s : State) : CompletionFrame s s := ⟨rfl, rfl, rfl, rfl, rfl, rfl⟩

theorem completionFrame_onCompleted (s : State) (e : TxEntry) : CompletionFrame s (s.onCompleted e) := by
  unfold State.onCompleted
  split
  · exact completionFrame_refl s
  split
  · next rs _ =>
    have same := sameBut_marks s (fun x => if rs.any (fun r => decide (r.id = x.record.id ∧
      r.extensions = x.record.extensions)) then { x with unannounced := false } else x) fun x => by split <;> rfl
    exact ⟨rfl, rfl, rfl, rfl, rfl, same.records⟩
  · unfold State.openSent
    split
    · split
      · exact ⟨rfl, rfl, rfl, rfl, rfl, rfl⟩
      · exact completionFrame_refl s
    · exact completionFrame_refl s
  · exact completionFrame_refl s

/-- R3, R6, R7: the channel block at the end of the own transmission. -/
def State.sentChan (s : State) : ChannelBlock :=
  { s.chan with
    phase := .gap, onAir := none
    spent := s.chan.spent || s.link.running.any (fun r => decide (r.config.mode = .fair))
    queue := s.chan.queue.filter fun e => !e.sending }

theorem completeSending_eq {s : State} (sending : s.chan.phase = .sending) : s.completeSending =
    ((s.chan.queue.find? TxEntry.sending).map fun e => (s.setChan s.sentChan).onCompleted e).getD (s.setChan s.sentChan) := by
  unfold State.completeSending
  rw [if_neg (not_not_intro sending)]
  dsimp only
  split
  · next e found => rw [found]; rfl
  · next none => rw [none]; rfl

theorem completionFrame_completeSending {s : State} (sending : s.chan.phase = .sending) :
    CompletionFrame (s.setChan s.sentChan) s.completeSending := by
  rw [completeSending_eq sending]
  cases s.chan.queue.find? TxEntry.sending with
  | none => exact completionFrame_refl _
  | some e => exact completionFrame_onCompleted _ e

/-- R114: the sent OPEN of the PENDING claim in flight starts its objection window. -/
theorem flight_of_sent_open {s : State} {e : TxEntry} {b : ClaimOpenBody} {c : Claim} {f : Flight} (own : e.copy = false)
    (body : e.body = .claimOpen b) (current : s.permits.current = some (c, f)) (pending : c.state = .pending)
    (id : c.id = openFrameId e.origin e.seq b) :
    ∃ g, (s.onCompleted e).permits.flight = some g ∧ g.window = some 3 ∧ g.awaiting = false := by
  refine ⟨windowAfterOpen c f, ?_, ?_, rfl⟩
  · simp [State.onCompleted, own, body, State.openSent, current, id]
  · simp [windowAfterOpen, pending]

/-- R3, R9: an own frame joins a queue with room under a new origin sequence. -/
theorem handOwn_eq_of_room {s : State} {r : Running} (b : QueuedBody) (running : s.link.running = some r)
    (onChannel : r.number ≠ 0) (room : s.chan.queue.length < 16) :
    s.handOwn b = ((s.setRet { s.ret with seq := (s.ret.seq + 1) % 65536 }).setQueue
      (s.chan.queue ++ [ownEntry b r.number ((s.ret.seq + 1) % 65536)]), .queued ((s.ret.seq + 1) % 65536)) := by
  rw [handOwn_of_room running onChannel room, State.admitOwn, own_of_running running]
  rfl

/-- Settles O43. -/
theorem transmitCompletionRemoves : Obligations.TransmitCompletionRemoves := by
  refine ⟨fun s r b running onChannel => ⟨handOwn_eq_of_room b running onChannel,
      fun full low => handOwn_of_low_class running onChannel full low,
    fun full high => ⟨fun none => handOwn_of_no_victim running onChannel full high (victim_eq_none none),
      fun before v after queue waits low last distinct => ?gives⟩⟩, fun s power sending => ?completes⟩
  case gives =>
    have chosen : victim s.chan.queue = some v := by
      rw [queue] at low ⊢
      exact victim_of_last waits low last
    rw [handOwn_of_victim running onChannel full high chosen]
    have ret : ((s.setQueue (s.chan.queue.erase v)).onEvicted v).ret = s.ret := onEvicted_ret _ _
    have chan : ((s.setQueue (s.chan.queue.erase v)).onEvicted v).chan.queue = before ++ after := by
      rw [onEvicted_chan]
      show s.chan.queue.erase v = _
      rw [queue] at distinct ⊢
      exact erase_of_nodup distinct
    have own : ((s.setQueue (s.chan.queue.erase v)).onEvicted v).own = r.number := by
      rw [State.own, onEvicted_link]
      exact own_of_running running
    obtain ⟨stay, ret', seq⟩ := admitOwn_entries_chan ((s.setQueue (s.chan.queue.erase v)).onEvicted v) b
    refine ⟨by rw [seq, ret], by rw [ret', ret], ?_, fun x own body e mem => ?_⟩
    · rw [State.admitOwn, ret, own]
      show _ ++ [_] = _
      rw [chan]
      rfl
    · rw [stay] at mem
      exact onEvicted_stay own body e mem
  case completes =>
    have frame := completionFrame_completeSending sending
    refine ⟨_, congrArg Host.Outcome.next (whilePowered_of_power power _), frame.chan, frame.ret, frame.faults, frame.cash,
      congrArg (List.map Claim.id) frame.claims, frame.records, fun e b c f found own body current pending id => ?_⟩
    rw [settle_permits, completeSending_eq sending, found]
    exact flight_of_sent_open (s := s.setChan s.sentChan) own body current pending id

end Sys2Proof.Machine

/-! PROOF. The outbound mailbox and the pending set of notices: O5. -/

namespace Sys2Proof.Machine

/-! ### The notice taken (R166) -/

section Next
variable {l : MachineLink}

theorem nextNotice_of_low {n : Notice} {rest : List Notice} (pending : l.notices = n :: rest)
    (noHigh : ∀ m ∈ l.notices, l.level m.body.kind ≠ .high) : l.nextNotice = some n := by
  have none : l.notices.find? (fun n => decide (l.level n.body.kind = .high)) = none :=
    List.find?_eq_none.2 fun m mem => by simpa using noHigh m mem
  simp only [MachineLink.nextNotice, none]
  rw [pending]
  rfl

theorem nextNotice_of_high {before after : List Notice} {n : Notice} (pending : l.notices = before ++ n :: after)
    (high : l.level n.body.kind = .high) (first : ∀ m ∈ before, l.level m.body.kind ≠ .high) : l.nextNotice = some n := by
  have found : l.notices.find? (fun n => decide (l.level n.body.kind = .high)) = some n :=
    List.find?_eq_some_iff_append.2 ⟨by simpa using high, before, after, pending, fun m mem => by simpa using first m mem⟩
  simp only [MachineLink.nextNotice, found]

theorem nextNotice_of_none (pending : l.notices = []) : l.nextNotice = none := by
  simp [MachineLink.nextNotice, pending]

end Next

/-! ### A notice given (R166) -/

theorem give_of_off {s : State} {b : NoticeBody} (off : s.link.level b.kind = .off) : s.give b = s := if_pos off

theorem give_of_on {s : State} {b : NoticeBody} (on : s.link.level b.kind ≠ .off) :
    s.give b = s.setLink { s.link with notices := joinNotices s.link.notices { body := b, givenAt := s.ret.clock.time } } :=
  if_neg on

theorem joinNotices_of_new {ns : List Notice} {n : Notice} (new : ∀ m ∈ ns, m.body.kind ≠ n.body.kind) :
    joinNotices ns n = ns ++ [n] := by
  have absent : ¬ ns.any (fun p => decide (p.body.kind = n.body.kind)) = true := by
    simpa using new
  exact if_neg absent

/-- R166: the notice of its kind is replaced in its place. -/
theorem joinNotices_of_held {before after : List Notice} {m n : Notice} (same : m.body.kind = n.body.kind)
    (others : ∀ x ∈ before ++ after, x.body.kind ≠ n.body.kind) :
    joinNotices (before ++ m :: after) n = before ++ n :: after := by
  have held : (before ++ m :: after).any (fun p => decide (p.body.kind = n.body.kind)) = true := by simp [same]
  have kept (xs : List Notice) (h : ∀ x ∈ xs, x.body.kind ≠ n.body.kind) :
      xs.map (fun p => if p.body.kind = n.body.kind then n else p) = xs := by
    refine (List.map_congr_left fun x mem => if_neg (h x mem)).trans (List.map_id _)
  rw [joinNotices, if_pos held, List.map_append, List.map_cons, if_pos same,
    kept before fun x mem => others x (by simp [mem]), kept after fun x mem => others x (by simp [mem])]

/-! ### The outbound mailbox read (R164) -/

section Refill
variable {l : MachineLink}

theorem placeNotice_of_none (h : l.nextNotice = none) : l.placeNotice = l := by simp [MachineLink.placeNotice, h]

theorem placeNotice_of_some {n : Notice} (h : l.nextNotice = some n) :
    l.placeNotice = { l with outbound := some (.notice n), notices := l.notices.erase n } := by
  simp [MachineLink.placeNotice, h]

/-- The link with its outbound mailbox emptied. -/
def MachineLink.emptied (l : MachineLink) : MachineLink := { l with outbound := none }

theorem nextNotice_emptied : l.emptied.nextNotice = l.nextNotice := rfl

/-- R164: with no response waiting a notice, if there is one, fills the empty mailbox. -/
theorem placeNotice_emptied : l.emptied.placeNotice.outbound = l.nextNotice.map .notice ∧
    (∀ n, l.nextNotice = some n → l.emptied.placeNotice.notices = l.notices.erase n) ∧
    l.emptied.placeNotice.waiting = l.waiting ∧ l.emptied.placeNotice.inbound = l.inbound := by
  cases next : l.nextNotice with
  | none =>
    rw [placeNotice_of_none (nextNotice_emptied.trans next)]
    exact ⟨rfl, fun n e => absurd e (by simp), rfl, rfl⟩
  | some n =>
    rw [placeNotice_of_some (nextNotice_emptied.trans next)]
    refine ⟨rfl, fun m e => ?_, rfl, rfl⟩
    obtain rfl : n = m := Option.some.inj e
    rfl

theorem refill_of_waiting (waits : l.waiting.isSome = true) : l.emptied.refill = l.emptied.placeResponse := by
  simp [MachineLink.refill, MachineLink.emptied, waits]

theorem refill_of_none (idle : l.waiting = none) : l.emptied.refill = l.emptied.placeNotice := by
  simp [MachineLink.refill, MachineLink.emptied, idle]

/-- R164: a link that holds nothing to place is filled already. -/
theorem settle_of_filled (h : l.outbound.isSome = true ∨ (l.waiting = none ∧ l.nextNotice = none)) : l.settle = l := by
  unfold MachineLink.settle
  split
  · rfl
  · next empty =>
    obtain ⟨waiting, next⟩ := h.resolve_left empty
    simp [waiting, placeNotice_of_none next]

end Refill

theorem settle_self {s : State} (h : s.link.outbound.isSome = true ∨ (s.link.waiting = none ∧ s.link.nextNotice = none)) :
    s.settle = s := by
  rw [State.settle, settle_of_filled h, ite_self]
  rfl

/-- R164: the state in which a whole read has emptied and filled the outbound mailbox. -/
def State.refilled (s : State) : State := s.setLink s.link.emptied.refill

theorem readMailbox_of_whole {s : State} (full : s.link.outbound.isSome = true) :
    s.readMailbox true = s.refilled.takeRequest := by
  have held : s.link.outbound.isNone = false := by
    rw [← Option.not_isSome, full]
    rfl
  simp [State.readMailbox, held, State.refilled, MachineLink.emptied]

theorem takeRequest_of_empty {s : State} (h : s.link.inbound = none) : s.takeRequest = s := by simp [State.takeRequest, h]

theorem sameBlocks_refilled (s : State) : SameBlocks s s.refilled :=
  (SameBlocks.mk rfl rfl rfl rfl rfl rfl rfl rfl rfl rfl rfl rfl : SameBlocks s s).setLink (refill_running _)

/-- R163, R164: the request held behind the response read is examined and answered. -/
theorem answered_behind_response {s u : State} {f : LinkFrame} {a : Answer} (waiting : s.link.waiting = none)
    (inbound : s.link.inbound = some f) (idle : s.walk = none) (examined : s.refilled.examine f = (u, some a)) :
    s.refilled.takeRequest = u.respond (frameCode f.content) a := by
  have refilled : s.refilled.link = s.link.emptied.placeNotice := refill_of_none waiting
  obtain ⟨outbound, -, waits, held⟩ := placeNotice_emptied (l := s.link)
  have noResponse : s.refilled.link.responseOut = false := by
    rw [refilled, MachineLink.responseOut, outbound]
    cases s.link.nextNotice <;> rfl
  have free : s.refilled.linkIdle = true := by
    rw [State.linkIdle, noResponse, refilled, waits, waiting, show s.refilled.walk = none from idle]
    rfl
  have held : s.refilled.link.inbound = some f := by rw [refilled, held, inbound]
  simp [State.takeRequest, held, free, examined]

/-- Settles O5. -/
theorem mailboxReadRefills : Obligations.MailboxReadRefills := by
  refine ⟨fun l => ⟨fun n rest => nextNotice_of_low, fun before n after => nextNotice_of_high, nextNotice_of_none⟩,
    fun s b => ⟨give_of_off, fun on => ⟨fun new => ?joins, fun before m after pending same others => ?replaces⟩⟩,
    fun s u f x a power unread waiting inbound idle examined => ?behind, fun s => ⟨fun full => ?part,
        fun empty waiting none w => ?empty,
      fun power released full => ⟨fun x waits => ?response, fun waiting inbound => ?notice⟩⟩⟩
  case joins => rw [give_of_on on, joinNotices_of_new new]
  case replaces => rw [give_of_on on, pending, joinNotices_of_held same others]
  case behind =>
    refine ⟨_, congrArg Host.Outcome.next (whilePowered_of_power power _), ?_⟩
    rw [readMailbox_of_whole (by rw [unread]; rfl), answered_behind_response waiting inbound idle examined]
    exact answered_respond_settle _ _ _
  case part =>
    have untouched : s.readMailbox false = s := by simp [State.readMailbox]
    refine congrArg Host.Outcome.next ?_
    simp only [State.whilePowered, untouched, settle_self (.inl full), ite_self]
  case empty =>
    have untouched : s.readMailbox w = s := by simp [State.readMailbox, empty]
    refine congrArg Host.Outcome.next ?_
    simp only [State.whilePowered, untouched, settle_self (.inr ⟨waiting, nextNotice_of_none none⟩), ite_self]
  case response =>
    have link : s.refilled.link = { s.link with
        outbound := some (.response { x with overrun := s.link.overrun }), overrun := false, waiting := none,
            inbound := none } :=
      (refill_of_waiting (by rw [waits]; rfl)).trans (placeResponse_of_waiting (l := s.link.emptied) waits)
    have read : (s.readMailbox true).settle = s.refilled := by
      rw [readMailbox_of_whole full, takeRequest_of_empty (by rw [link]), settle_self (.inl (by rw [link]; rfl))]
    refine ⟨_, congrArg Host.Outcome.next ((whilePowered_of_power power _).trans read), ?_⟩
    rw [link]
    exact ⟨rfl, rfl, rfl, rfl, rfl, rfl, sameBlocks_refilled s⟩
  case notice =>
    have link : s.refilled.link = s.link.emptied.placeNotice := refill_of_none waiting
    obtain ⟨outbound, notices, waits, held⟩ := placeNotice_emptied (l := s.link)
    have filled : s.refilled.link.outbound.isSome = true ∨
        (s.refilled.link.waiting = none ∧ s.refilled.link.nextNotice = none) := by
      rw [link]
      cases next : s.link.nextNotice with
      | none =>
        refine .inr ⟨waits.trans waiting, ?_⟩
        rw [placeNotice_of_none (nextNotice_emptied.trans next)]
        exact nextNotice_emptied.trans next
      | some n => exact .inl (by rw [outbound, next]; rfl)
    have read : (s.readMailbox true).settle = s.refilled := by
      rw [readMailbox_of_whole full, takeRequest_of_empty (by rw [link, held, inbound]), settle_self filled]
    refine ⟨_, congrArg Host.Outcome.next ((whilePowered_of_power power _).trans read), ?_⟩
    rw [link]
    exact ⟨outbound, notices, waits.trans waiting, held.trans inbound, rfl, sameBlocks_refilled s⟩

end Sys2Proof.Machine

/-! PROOF. A frame accepted: what it runs, what its relaying leaves, and FAULT frames: O51. -/

namespace Sys2Proof.Machine

/-! ### The machine link under a frame -/

section Running
variable (s : State)

theorem deliver_running (forward : Bool) : (s.deliver forward).link.running = s.link.running := by
  obtain ⟨es, entries⟩ := retireOn_frame (s.setRet s.ret.activated) forward
  rw [(sameBut_deliver s forward).running, State.delivered, entries]
  rfl

theorem timeStep_running (cause : StepCause) (time epoch : Nat) :
    (s.timeStep cause time epoch).link.running = s.link.running := by
  rw [(sameBut_timeStep s time epoch cause).running, deliver_running, (sameBut_stepped s time epoch).running]
  rfl

theorem mergeEqual_running (sender time : Nat) : (s.mergeEqual sender time).link.running = s.link.running := by
  have judged := (sameBut_reconsiderClocks (s.setNeighbour sender { s.neighbour sender with
    disputed := decide (s.now + 120 < time) })).running
  unfold State.mergeEqual
  dsimp only
  split
  · exact judged
  · exact (deliver_running _ true).trans judged

theorem mergeTime_running (h : RxHeader) : (s.mergeTime h).link.running = s.link.running := by
  unfold State.mergeTime
  split
  · rfl
  split
  · exact timeStep_running s _ _ _
  split
  · exact timeStep_running s _ _ _
  split
  · exact mergeEqual_running s _ _
  · rfl

/-- R12: the state in which the stations of a frame are marked heard, before what follows the changes. -/
def State.marked (h : RxHeader) (period : Nat) : State :=
  let s1 := s.setNeighbour h.sender ((s.neighbour h.sender).heardAsSender s.now period)
  if h.origin = h.sender ∨ h.origin = s.own then s1
  else s1.setNeighbour h.origin ((s1.neighbour h.origin).heardAsOrigin s.now)

theorem hear_eq (h : RxHeader) (period : Nat) : s.hear h period = (s.marked h period).neighboursChanged := rfl

/-- R21, R22, R34, R54: what a change of entries sets going changes the distance alone, but for reports. -/
theorem sameBut_neighboursChanged :
    SameButReports (s.setChan { s.chan with distance := s.distanceNow }) s.neighboursChanged :=
  ((sameBut_recomputeDistance s).trans (sameBut_reconsiderClocks _)).trans (sameBut_reconsiderTariffIf _ _)

theorem marked_frame (h : RxHeader) (period : Nat) : ∃ ns, s.marked h period = s.setChan { s.chan with neighbours := ns } := by
  unfold State.marked
  dsimp only
  split
  · exact ⟨_, rfl⟩
  · exact ⟨_, rfl⟩

/-- R12: a hearing touches the neighbour table and the distance alone, but for reports. -/
theorem hear_frame (h : RxHeader) (period : Nat) : ∃ ns d,
    SameButReports (s.setChan { s.chan with neighbours := ns, distance := d }) (s.hear h period) := by
  obtain ⟨ns, marked⟩ := marked_frame s h period
  have changed := sameBut_neighboursChanged (s.marked h period)
  rw [hear_eq]
  rw [marked] at changed ⊢
  exact ⟨ns, _, changed⟩

end Running

section Accepted
variable {s u : State} {h : RxHeader} {f : FrameForm} {isStatus : Bool} {r : Running}

theorem running_of_listening (listening : s.listening = some r) : s.link.running = some r ∧ r.number ≠ 0 := by
  unfold State.listening at listening
  split at listening
  · obtain ⟨running, number⟩ := Option.filter_eq_some_iff.1 listening
    exact ⟨running, of_decide_eq_true number⟩
  · cases listening

/-- R12 to R15: an accepted frame leaves the station running as it was. -/
theorem Accepts.running (acc : Accepts s h f isStatus r u) : u.link.running = some r ∧ r.number ≠ 0 := by
  obtain ⟨running, number⟩ := running_of_listening acc.listening
  refine ⟨?_, number⟩
  obtain ⟨v, recorded, rfl⟩ := Option.map_eq_some_iff.1 acc.offered
  obtain ⟨w, rfl⟩ := recordSeq_eq_some recorded
  obtain ⟨ns, d, heard⟩ := hear_frame s h r.config.statusPeriod
  rw [mergeTime_running]
  exact heard.running.trans running

/-- R11 to R15: an accepted frame reaches its owner in the state as its offering left it. -/
theorem receive_of_accepts (acc : Accepts s h f isStatus r u) (owner : Running → State → State) :
    s.receive h f isStatus owner = owner r u := by
  obtain ⟨v, recorded, merged⟩ := Option.map_eq_some_iff.1 acc.offered
  have accepted : s.accept h r isStatus owner = owner r u := by
    simp only [State.accept, acc.origin, if_false, recorded, merged]
  simp [State.receive, acc.listening, acc.header, acc.sender, accepted]

/-- R16: the relaying of a frame is the relayed copy's admission. -/
theorem relayFrame_eq (t : State) (h : RxHeader) (n : Nat) (b : QueuedBody) :
    t.relayFrame h n b = t.setQueue (relayed t.chan.queue h n b) := by
  have admits : (h.relay = true ∧ h.hop < n ∧ t.chan.queue.length < 16 ∧
      ∀ e ∈ t.chan.queue, ¬(e.origin = h.origin ∧ e.seq = h.seq)) ↔ (h.relay ∧ h.hop < n) ∧ t.chan.queue.length < 16 ∧
        ¬ t.chan.queue.any (fun e => decide (e.origin = h.origin ∧ e.seq = h.seq)) = true := by
    simp [and_assoc]
  unfold State.relayFrame State.handCopy relayed
  rw [if_congr admits rfl rfl]
  by_cases goes : h.relay = true ∧ h.hop < n
  · rw [if_pos goes]
    split
    · next admitted => rw [if_pos ⟨goes, admitted⟩]
    · next dropped => rw [if_neg fun x => dropped x.2]; rfl
  · rw [if_neg goes, if_neg fun x => goes x.1]
    rfl

/-- R16, log 13: the state at the end of an accepted frame's step, its copy handed after what its block handed. -/
def State.relaying (t : State) (h : RxHeader) (r : Running) (b : QueuedBody) : State :=
  (t.setQueue (relayed t.chan.queue h r.config.hopLimit b)).settle

section Relaying
variable (t : State) (h : RxHeader) (r : Running) (b : QueuedBody)

@[simp] theorem relaying_ret : (t.relaying h r b).ret = t.ret := rfl
@[simp] theorem relaying_stay : (t.relaying h r b).stay = t.stay := rfl
@[simp] theorem relaying_permits : (t.relaying h r b).permits = t.permits := rfl
@[simp] theorem relaying_cash : (t.relaying h r b).cash = t.cash := rfl
@[simp] theorem relaying_queue : (t.relaying h r b).chan.queue = relayed t.chan.queue h r.config.hopLimit b := rfl

end Relaying

/-- R15, R16: the step of an accepted frame that is relayed: its block's work, then the copy, then the end of the step. -/
theorem step_of_relayed {length : Nat} {countOk : Bool} {b : QueuedBody} {own : State → State}
    (acc : Accepts s h { classOk := decide (h.cls = b.cls), length, countOk } false r u) :
    s.whilePowered (fun t => t.receiveRelayed h length countOk b own) = (own u).relaying h r b := by
  rw [whilePowered_of_power acc.power, State.receiveRelayed, receive_of_accepts acc, relayFrame_eq]
  rfl

theorem mem_relayed {q : List TxEntry} {n : Nat} {b : QueuedBody} {e : TxEntry} (mem : e ∈ q) : e ∈ relayed q h n b := by
  unfold relayed
  split
  · exact List.mem_append_left _ mem
  · exact mem

end Accepted

/-! ### The sink inbox (R158) -/

section Inbox
variable {inbox : List InboxReport} {x : InboxReport}

theorem inboxAfter_of_room (room : inbox.length < 64) (ownReport : Bool) : inboxAfter inbox x ownReport = (inbox ++ [x],
    true) :=
  if_pos room

theorem inboxAfter_of_full (full : 64 ≤ inbox.length) : inboxAfter inbox x false = (inbox, false) := by
  simp [inboxAfter, Nat.not_lt.2 full]

theorem inboxAfter_of_victim {before after : List InboxReport} {o : InboxReport} (held : inbox = before ++ o :: after)
    (full : 64 ≤ inbox.length) (first : ∀ y ∈ before, y.report.severity ≠ .info) (info : o.report.severity = .info) :
    inboxAfter inbox x true = (before ++ after ++ [x], true) := by
  have found : inbox.find? (fun x => decide (x.report.severity = .info)) = some o :=
    List.find?_eq_some_iff_append.2 ⟨by simpa using info, before, after, held, fun y mem => by simpa using first y mem⟩
  have absent : o ∉ before := fun mem => first o mem info
  have rest : inbox.erase o = before ++ after := by rw [held, List.erase_append_right _ absent, List.erase_cons_head]
  simp [inboxAfter, Nat.not_lt.2 full, found, rest]

theorem inboxAfter_of_no_info (full : 64 ≤ inbox.length) (none : ∀ y ∈ inbox, y.report.severity ≠ .info) :
    inboxAfter inbox x true = (inbox, false) := by
  have absent : inbox.find? (fun x => decide (x.report.severity = .info)) = Option.none :=
    List.find?_eq_none.2 fun y mem => by simpa using none y mem
  simp [inboxAfter, Nat.not_lt.2 full, absent]

end Inbox

theorem give_frame (s : State) (b : NoticeBody) :
    (s.give b).faults = s.faults ∧ (s.give b).chan = s.chan ∧ (s.give b).ret = s.ret := by
  obtain ⟨ns, given⟩ := give_eq s b
  rw [given]
  exact ⟨rfl, rfl, rfl⟩

/-- R158: what a report's arrival leaves in the fault unit, by what the inbox takes. -/
theorem toInbox_of {s : State} {x : FaultReport} {seq : Option Nat} {ownReport : Bool} {inbox : List InboxReport}
    {entered : Bool} (after : inboxAfter s.faults.inbox { report := x, seq, enteredAt := s.now } ownReport = (inbox,
        entered)) :
    (s.toInbox x seq ownReport).2 = entered ∧
      (s.toInbox x seq ownReport).1.faults = { s.faults with inbox := inbox, overflow := s.faults.overflow || !entered } ∧
      (s.toInbox x seq ownReport).1.chan = s.chan ∧ (s.toInbox x seq ownReport).1.ret = s.ret := by
  unfold State.toInbox
  rw [after]
  dsimp only
  refine ⟨rfl, ?_⟩
  split
  · exact give_frame _ _
  · exact ⟨rfl, rfl, rfl⟩

theorem dealReport_of_sink {s : State} (sink : s.isSink = true) (n : Nat) (x : FaultReport) :
    (s.dealReport n x).faults.inbox = (s.toInbox { x with origin := s.own } none true).1.faults.inbox ∧
      (s.dealReport n x).faults.overflow = (s.toInbox { x with origin := s.own } none true).1.faults.overflow := by
  rw [State.dealReport, if_pos sink]
  split
  next t entered e =>
    rw [e]
    dsimp only
    split <;> exact ⟨rfl, rfl⟩

/-- R16, R157: a repeated copy joins a queue with room that holds none of its origin and sequence. -/
theorem handCopy_of_room {s : State} {b : QueuedBody} {origin seq hop : Nat} {relay : Bool} {cls : FrameClass}
    (room : s.chan.queue.length < 16) (fresh : ∀ e ∈ s.chan.queue, ¬(e.origin = origin ∧ e.seq = seq)) :
    s.handCopy b origin seq hop relay cls =
      s.setQueue (s.chan.queue ++ [{ body := b, origin, seq, hop, relay, cls, copy := true, sending := false }]) := by
  have admitted : s.chan.queue.length < 16 ∧ ¬ s.chan.queue.any (fun e => decide (e.origin = origin ∧ e.seq = seq)) = true :=
    ⟨room, by simpa using fresh⟩
  exact if_pos admitted

/-- Settles O51. -/
theorem faultFrameMovesToSink : Obligations.FaultFrameMovesToSink := by
  refine ⟨fun s n x sink full => ⟨fun before o after held first info => ?evicts, fun none => ?dropped⟩,
    fun s u h r b acc => ?frame⟩
  case evicts =>
    obtain ⟨inbox, overflow⟩ := dealReport_of_sink sink n x
    obtain ⟨-, faults, -⟩ := toInbox_of (x := { x with origin := s.own }) (seq := none)
      (inboxAfter_of_victim held full first info)
    rw [inbox, overflow, faults]
    exact ⟨rfl, Bool.or_false _⟩
  case dropped =>
    obtain ⟨inbox, overflow⟩ := dealReport_of_sink sink n x
    obtain ⟨-, faults, -⟩ := toInbox_of (x := { x with origin := s.own }) (seq := Option.none)
        (inboxAfter_of_no_info full none)
    rw [inbox, overflow, faults]
    exact ⟨rfl, Bool.or_true _⟩
  case frame =>
    have step : exec (.faultFrame h b) s = .next (u.onFault h b).settle :=
      congrArg Host.Outcome.next ((whilePowered_of_power acc.power _).trans (congrArg State.settle
          (receive_of_accepts acc _)))
    have atSink (sink : u.isSink = true) :
        u.onFault h b = (u.toInbox { b.report with origin := h.origin } (some h.seq) false).1 := if_pos sink
    have away (noSink : u.isSink = false) : u.onFault h b = u.repeatFault h b := by simp [State.onFault, noSink]
    refine ⟨fun sink room => ?enters, fun sink full => ?full, fun noSink near nearer room fresh => ?repeats,
      fun noSink far => ?ignores⟩
    case enters =>
      obtain ⟨-, faults, chan, ret⟩ := toInbox_of (s := u) (x := { b.report with origin := h.origin }) (seq := some h.seq)
        (inboxAfter_of_room room false)
      rw [atSink sink] at step
      exact ⟨_, step, chan, ret, congrArg FaultBlock.inbox faults⟩
    case full =>
      obtain ⟨-, faults, chan, ret⟩ := toInbox_of (s := u) (x := { b.report with origin := h.origin }) (seq := some h.seq)
        (inboxAfter_of_full full)
      rw [atSink sink] at step
      exact ⟨_, step, chan, ret, faults.trans (by simp)⟩
    case repeats =>
      rw [away noSink, State.repeatFault, if_pos ⟨near, nearer⟩, handCopy_of_room room fresh] at step
      exact ⟨_, step, rfl, rfl, rfl⟩
    case ignores =>
      have stays : ¬ (u.chan.distance < 7 ∧ u.chan.distance < b.distance) := by omega
      rw [away noSink, State.repeatFault, if_neg stays] at step
      exact ⟨_, step, rfl, rfl, rfl⟩

end Sys2Proof.Machine

/-! PROOF. Records heard: the rules of their merging and the STAY frame: O25 and O46. -/

namespace Sys2Proof.Machine

/-! ### A record in the table (R82) -/

/-- R82: an entry whose identity no other has is found where it was put. -/
theorem find_insertEntry {e : StayEntry} {es : List StayEntry} (new : ∀ x ∈ es, x.record.id ≠ e.record.id) :
    (insertEntry e es).find? (fun x => decide (x.record.id = e.record.id)) = some e := by
  induction es with
  | nil => simp [insertEntry]
  | cons x xs ih =>
    have other : x.record.id ≠ e.record.id := new x (by simp)
    unfold insertEntry
    split
    · simp
    · simpa [other] using ih fun y mem => new y (by simp [mem])

/-- The record of an identity, by the records alone. -/
theorem find_map_record (t : StayTable) (id : Identity) :
    (t.find id).map StayEntry.record = (t.entries.map StayEntry.record).find? fun x => decide (x.id = id) := by
  rw [List.find?_map]
  rfl

theorem SameButReports.find_record {s t : State} (h : SameButReports s t) (id : Identity) :
    (t.stay.find id).map StayEntry.record = (s.stay.find id).map StayEntry.record := by
  rw [find_map_record, find_map_record, h.records]

theorem find_replaceRecord (s : State) (r : StayRecord) :
    (s.replaceRecord r).stay.find r.id = some { record := r, unannounced := false } :=
  find_insertEntry (e := { record := r, unannounced := false }) fun x mem => by simpa using (List.mem_filter.1 mem).2

/-! ### The candidate for removal (R97) -/

theorem removalCandidate_of {own : Nat} {es before after : List StayEntry} {c : StayEntry} (held : es = before ++ c :: after)
    (first : ∀ e ∈ before, ownRecord e.record own = true)
    (chosen : ownRecord c.record own = false ∨ (before = [] ∧ ∀ e ∈ es, ownRecord e.record own = true)) :
    removalCandidate own es = some c := by
  rcases chosen with heard | ⟨rfl, allOwn⟩
  · have found : es.find? (fun e => !ownRecord e.record own) = some c :=
      List.find?_eq_some_iff_append.2 ⟨by simp [heard], before, after, held, fun e mem => by simp [first e mem]⟩
    simp [removalCandidate, found]
  · have none : es.find? (fun e => !ownRecord e.record own) = none :=
      List.find?_eq_none.2 fun e mem => by simp [allOwn e mem]
    rw [removalCandidate, none, held]
    rfl

theorem erase_candidate {own : Nat} {es before after : List StayEntry} {c : StayEntry} (held : es = before ++ c :: after)
    (first : ∀ e ∈ before, ownRecord e.record own = true)
    (chosen : ownRecord c.record own = false ∨ (before = [] ∧ ∀ e ∈ es, ownRecord e.record own = true)) :
    es.erase c = before ++ after := by
  have absent : c ∉ before := by
    rcases chosen with heard | ⟨rfl, -⟩
    · intro mem
      rw [first c mem] at heard
      cases heard
    · simp
  rw [held, List.erase_append_right _ absent, List.erase_cons_head]

/-- R97: what the loss of a record leaves: STAY TABLE FULL for a live one, and nothing for another. -/
theorem raiseLoss_of_live {s : State} {r : StayRecord} (live : s.ret.clock.time < r.expiry) :
    s.raiseLoss r = s.raise .stayTableFull r.id.origin := if_pos (decide_eq_true live)

theorem raiseLoss_of_over {s : State} {r : StayRecord} (expired : r.expiry ≤ s.ret.clock.time) : s.raiseLoss r = s := by
  have : liveAt r s.now = false := decide_eq_false (Nat.not_lt.2 expired)
  simp [State.raiseLoss, this]

theorem raiseLoss_faults {s : State} (table : s.faults.table.length = 22) (r : StayRecord) :
    (s.ret.clock.time < r.expiry → ((s.raiseLoss r).faultEntry .stayTableFull).detail = r.id.origin % 65536 ∧
      ((s.raiseLoss r).faultEntry .stayTableFull).raisedAt = some s.ret.clock.time) ∧
    (r.expiry ≤ s.ret.clock.time → (s.raiseLoss r).faults = s.faults) := by
  refine ⟨fun live => ?_, fun expired => by rw [raiseLoss_of_over expired]⟩
  rw [raiseLoss_of_live live]
  have raised := raised_raise table .stayTableFull r.id.origin
  exact ⟨raised.detail, raised.raisedAt⟩

/-- Settles O25. -/
theorem recordMergeRules : Obligations.RecordMergeRules := by
  intro s r
  refine ⟨fun out => ?passed, fun inForm due => ?merged⟩
  case passed =>
    refine if_pos ?_
    rw [Bool.or_eq_true, Bool.not_eq_true', decide_eq_true_eq]
    exact out
  have taken : ¬ ((!carriedOk r || decide (retireTime r ≤ s.now)) = true) := by
    have due : ¬ retireTime r ≤ s.now := Nat.not_le.2 due
    simp [inForm, due]
  have unheld (none : s.stay.find r.id = none) : s.mergeRecord r = s.enterRecord r := by
    simp only [State.mergeRecord, if_neg taken, none]
  refine ⟨fun none room => ?enters, fun e held => ?held, fun none full table before c after entries first chosen => ?full⟩
  case enters =>
    rw [unheld none, enterRecord_of_room room]
    exact find_insertEntry (e := { record := r, unannounced := false }) (ne_of_find_none none)
  case held =>
    have merges : s.mergeRecord r =
        if e.record.extensions < r.extensions then s.replaceRecord r
        else if r.extensions < e.record.extensions ∨ e.record = r then s
        else (if carriedWins e.record r then s.replaceRecord r else s).raise .stayConflict r.id.origin := by
      simp only [State.mergeRecord, if_neg taken, held]
    have heldRecord : (s.stay.find r.id).map StayEntry.record = some e.record := by rw [held]; rfl
    have newer (lt : e.record.extensions < r.extensions) : s.mergeRecord r = s.replaceRecord r := by rw [merges, if_pos lt]
    have conflict (same : r.extensions = e.record.extensions) (differs : r ≠ e.record) : s.mergeRecord r =
        (if carriedWins e.record r then s.replaceRecord r else s).raise .stayConflict r.id.origin := by
      have stands : ¬ (r.extensions < e.record.extensions ∨ e.record = r) := by
        rintro (lt | eq)
        · omega
        · exact differs eq.symm
      rw [merges, if_neg (by omega), if_neg stands]
    have kept (wins : carriedWins e.record r = true) :
        (((if carriedWins e.record r then s.replaceRecord r else s).raise .stayConflict r.id.origin).stay.find r.id).map
          StayEntry.record = some r := by
      rw [(sameBut_raise _ _ _).find_record, if_pos wins, find_replaceRecord]
      rfl
    have stands (loses : carriedWins e.record r = false) :
        (((if carriedWins e.record r then s.replaceRecord r else s).raise .stayConflict r.id.origin).stay.find r.id).map
          StayEntry.record = some e.record := by
      rw [(sameBut_raise _ _ _).find_record, if_neg (by simp [loses]), heldRecord]
    refine ⟨fun lt => ?_, fun old => ?_, fun same later => ?_, fun same earlier => ?_, fun same equal => ?_,
      fun same differs table => ?_⟩
    · rw [newer lt]
      exact ⟨find_replaceRecord s r, rfl⟩
    · rw [merges, if_neg (by rcases old with lt | rfl <;> omega), if_pos (old.imp id Eq.symm)]
    · rw [conflict same (by rintro rfl; omega)]
      exact kept (decide_eq_true (.inl later))
    · rw [conflict same (by rintro rfl; omega)]
      exact stands (decide_eq_false (by omega))
    · by_cases differs : r = e.record
      · have merged : s.mergeRecord r = s := by rw [merges, if_neg (by omega), if_pos (.inr differs.symm)]
        rw [merged, heldRecord, differs, ite_self]
      · rw [conflict same differs]
        by_cases more : e.record.paidTotal < r.paidTotal
        · rw [if_pos more]
          exact kept (decide_eq_true (.inr ⟨equal.symm, more⟩))
        · rw [if_neg more]
          exact stands (decide_eq_false (by omega))
    · rw [conflict same differs]
      have table : (if carriedWins e.record r then s.replaceRecord r else s).faults.table.length = 22 := by
        split <;> exact table
      obtain ⟨detail, raisedAt, occurrences, -⟩ := raised_raise table .stayConflict r.id.origin
      refine ⟨detail, raisedAt.trans ?_, occurrences.trans ?_⟩
      · split <;> rfl
      · split <;> rfl
  case full =>
    have candidate := removalCandidate_of entries first chosen
    have rest := erase_candidate entries first chosen
    have noRoom : ¬ s.stay.entries.length < stayCapacity := Nat.not_lt.2 (Nat.le_of_eq full.symm)
    rw [unheld none]
    have choice : s.enterRecord r =
        if ownRecord r s.own || (!ownRecord c.record s.own && decide (retireTime c.record < retireTime r)) then
          (s.setEntries (insertEntry { record := r, unannounced := false } (before ++ after))).raiseLoss c.record
        else s.raiseLoss r := by
      simp only [State.enterRecord, noRoom, if_false, candidate, rest]
    dsimp only
    rw [choice]
    split
    · obtain ⟨live, expired⟩ := raiseLoss_faults
        (s := s.setEntries (insertEntry { record := r, unannounced := false } (before ++ after))) table c.record
      exact ⟨(sameBut_raiseLoss _ _).records, live, expired⟩
    · obtain ⟨live, expired⟩ := raiseLoss_faults table r
      exact ⟨(sameBut_raiseLoss _ _).records, live, expired⟩

/-! ### The STAY frame (R95) -/

/-- From s to t the stay table's entries changed, and else as `SameButReports` leaves it. -/
def EntriesOnly (s t : State) : Prop := SameButReports (s.setEntries t.stay.entries) t

namespace EntriesOnly

theorem of_base {s t : State} {es : List StayEntry} (h : SameButReports (s.setEntries es) t) : EntriesOnly s t :=
  { h with records := rfl }

theorem of_sameBut {s t : State} (h : SameButReports s t) : EntriesOnly s t := { h with records := rfl }

theorem refl (s : State) : EntriesOnly s s := SameButReports.refl s

theorem trans {s t u : State} (h : EntriesOnly s t) (k : EntriesOnly t u) : EntriesOnly s u :=
  SameButReports.trans (t := t.setEntries u.stay.entries) { h with records := rfl } k

end EntriesOnly

theorem entriesOnly_enterRecord (s : State) (r : StayRecord) : EntriesOnly s (s.enterRecord r) := by
  obtain ⟨es, same⟩ := sameBut_enterRecord s r
  exact .of_base same

theorem entriesOnly_mergeRecord (s : State) (r : StayRecord) : EntriesOnly s (s.mergeRecord r) := by
  have replaced : EntriesOnly s (s.replaceRecord r) := .of_base (SameButReports.refl _)
  unfold State.mergeRecord
  split
  · exact .refl s
  split
  · exact entriesOnly_enterRecord s r
  split
  · exact replaced
  split
  · exact .refl s
  refine .trans ?_ (.of_sameBut (sameBut_raise _ _ _))
  split
  · exact replaced
  · exact .refl s

theorem entriesOnly_mergeRecords (s : State) (rs : List StayRecord) : EntriesOnly s (s.mergeRecords rs) := by
  induction rs generalizing s with
  | nil => exact .refl s
  | cons r rs ih => exact (entriesOnly_mergeRecord s r).trans (ih _)

/-- Settles O46. -/
theorem stayFrameMerges : Obligations.StayFrameMerges := by
  intro s u h r rs cls one four acc
  have form : Accepts s h (FrameForm.mk (decide (h.cls = (QueuedBody.stay rs (decide (h.cls = .bulk))).cls))
      (1 + 48 * rs.length) (decide (1 ≤ rs.length ∧ rs.length ≤ 4))) false r u := by
    have classOk : decide (h.cls = (QueuedBody.stay rs (decide (h.cls = .bulk))).cls) = true := by
      rcases cls with e | e <;> simp [e, QueuedBody.cls]
    rw [classOk, decide_eq_true ⟨one, four⟩]
    exact acc
  have frame := entriesOnly_mergeRecords u rs
  refine ⟨_, congrArg Host.Outcome.next (step_of_relayed form), rfl, frame.permits, frame.cash, frame.box, frame.door,
    frame.clock, rfl⟩

end Sys2Proof.Machine

/-! PROOF. The claim list under the frames heard, and CLAIM FIRM and CLAIM RELEASE: O48. -/

namespace Sys2Proof.Machine

theorem PermitsOnly.cash {s t : State} (h : PermitsOnly s t) : t.cash = s.cash :=
  SameButReports.cash (s := s.setPermits t.permits) h

theorem PermitsOnly.box {s t : State} (h : PermitsOnly s t) : t.ret.box = s.ret.box :=
  SameButReports.box (s := s.setPermits t.permits) h

theorem PermitsOnly.running {s t : State} (h : PermitsOnly s t) : t.link.running = s.link.running :=
  SameButReports.running (s := s.setPermits t.permits) h

/-! ### The claim in flight in the list (R109) -/

/-- The claim in flight, with what it carries, is the same in both blocks. -/
structure SameFlight (p q : PermitBlock) : Prop where
  claim : q.claims.find? Claim.inFlight = p.claims.find? Claim.inFlight
  flight : q.flight = p.flight

/-- No claim is in flight, and nothing carried for one. -/
structure PermitBlock.Idle (p : PermitBlock) : Prop where
  claim : p.claims.find? Claim.inFlight = none
  flight : p.flight = none

theorem SameFlight.refl (p : PermitBlock) : SameFlight p p := ⟨rfl, rfl⟩

theorem SameFlight.current {p q : PermitBlock} (h : SameFlight p q) : q.current = p.current := by
  simp only [PermitBlock.current, h.claim, h.flight]

theorem PermitBlock.Idle.of_same {p q : PermitBlock} (idle : p.Idle) (h : SameFlight p q) : q.Idle :=
  ⟨h.claim.trans idle.claim, h.flight.trans idle.flight⟩

theorem PermitBlock.Idle.notInFlight {p : PermitBlock} (idle : p.Idle) : ∀ c ∈ p.claims, c.inFlight = false := by
  simpa using List.find?_eq_none.1 idle.claim

theorem PermitBlock.Idle.current {p : PermitBlock} (idle : p.Idle) : p.current = none := by
  simp only [PermitBlock.current, idle.claim]

theorem idle_of_claims {p : PermitBlock} (h : ∀ c ∈ p.claims, c.inFlight = false) (flight : p.flight = none) : p.Idle :=
  ⟨List.find?_eq_none.2 fun c mem => by simp [h c mem], flight⟩

section List
variable {cs : List Claim}

theorem find_inFlight_filter {keep : Claim → Bool} (h : ∀ c, c.inFlight = true → keep c = true) :
    (cs.filter keep).find? Claim.inFlight = cs.find? Claim.inFlight := by
  rw [List.find?_filter]
  refine List.find?_congr fun c _ => ?_
  cases inFlight : c.inFlight
  · simp
  · simp [h c inFlight]

theorem find_inFlight_map {g : Claim → Claim} (state : ∀ c, (g c).inFlight = c.inFlight)
    (kept : ∀ c, c.inFlight = true → g c = c) : (cs.map g).find? Claim.inFlight = cs.find? Claim.inFlight := by
  have same : Claim.inFlight ∘ g = Claim.inFlight := funext state
  rw [List.find?_map, same]
  cases found : cs.find? Claim.inFlight with
  | none => rfl
  | some c => exact congrArg some (kept c (List.find?_some found))

/-- R110: a claim that enters the list is no claim in flight's concern. -/
theorem find_inFlight_enterClaim {c : Claim} (new : c.inFlight = false) :
    (enterClaim cs c).find? Claim.inFlight = cs.find? Claim.inFlight := by
  have appended (xs : List Claim) : (xs ++ [c]).find? Claim.inFlight = xs.find? Claim.inFlight := by
    simp [List.find?_append, new]
  unfold enterClaim
  split
  · exact appended cs
  split
  · next p found =>
    have provisional : p.inFlight = false := notInFlight_of_state (.inl (state_of_earliestProvisional found).2)
    have absent : p ∉ cs.filter Claim.inFlight := by simp [provisional]
    rw [appended, ← List.head?_filter, ← List.erase_filter, List.erase_of_not_mem absent, List.head?_filter]
  · rfl

theorem enterClaim_of_room {c : Claim} (room : cs.length < 160) : enterClaim cs c = cs ++ [c] := if_pos room

end List

/-! ### A claim merged as FIRM (R112) -/

section Merge
variable (s : State) (x : Claim)

theorem permitsOnly_mergeFirm : PermitsOnly s (s.mergeFirm x) := by
  unfold State.mergeFirm
  dsimp only
  split
  · exact .refl s
  split
  · exact .setPermits s _
  split
  · exact .refl s
  split
  · exact .refl s
  split
  · exact .setPermits s _
  split
  · split
    · exact (permitsOnly_endFlight s _ _ _).trans (.setPermits _ _)
    · exact .setPermits s _
  · exact .setPermits s _

/-- R112: a merge leaves the claim in flight as it was, or ends it. -/
theorem flight_mergeFirm : SameFlight s.permits (s.mergeFirm x).permits ∨ (s.mergeFirm x).permits.Idle := by
  have firm : ({ x with state := .firm, ageing := none } : Claim).inFlight = false := rfl
  have entered (cs : List Claim) (same : cs.find? Claim.inFlight = s.permits.claims.find? Claim.inFlight) :
      SameFlight s.permits { s.permits with claims := enterClaim cs { x with state := .firm, ageing := none } } :=
    ⟨(find_inFlight_enterClaim firm).trans same, rfl⟩
  unfold State.mergeFirm
  dsimp only
  split
  · exact .inl (.refl _)
  split
  · refine .inl ⟨find_inFlight_map (fun c => ?_) fun c inFlight => ?_, rfl⟩
    · split
      · next provisional => exact (notInFlight_of_state (.inl provisional.2)).symm
      · rfl
    · refine if_neg fun provisional => ?_
      rw [notInFlight_of_state (.inl provisional.2)] at inFlight
      cases inFlight
  split
  · exact .inl (.refl _)
  split
  · exact .inl (.refl _)
  split
  · refine .inl (entered _ (find_inFlight_filter fun c inFlight => ?_))
    simp only [Bool.not_eq_true', Bool.and_eq_false_iff, decide_eq_false_iff_not]
    refine .inr fun provisional => ?_
    rw [notInFlight_of_state (.inl provisional)] at inFlight
    cases inFlight
  split
  · next c f current =>
    split
    · refine .inr ⟨(find_inFlight_enterClaim firm).trans ?_, ?_⟩
      · rw [endFlight_permits]
        exact List.find?_eq_none.2 fun c mem => by simp [mem_filter_not_inFlight mem]
      · show (s.endFlight c f _).permits.flight = none
        rw [endFlight_permits]
    · exact .inl (entered _ rfl)
  · exact .inl (entered _ rfl)

theorem mergeFirm_of_past {s : State} {x : Claim} (past : x.day < s.today) : s.mergeFirm x = s := if_pos past

/-- R112: a PROVISIONAL claim of the id becomes FIRM in its place. -/
theorem mergeFirm_of_provisional {s : State} {x : Claim} (present : s.today ≤ x.day)
    (held : ∃ c ∈ s.permits.claims, c.id = x.id ∧ c.state = .provisional) :
    s.mergeFirm x = s.setClaims (s.permits.claims.map fun c =>
      if c.id = x.id ∧ c.state = .provisional then { c with state := .firm, ageing := none } else c) := by
  have any : (s.permits.claims.any fun c => decide (c.id = x.id ∧ c.state = .provisional)) = true := by
    simpa using held
  simp only [State.mergeFirm, if_neg (Nat.not_lt.2 present), any, if_true]

/-- R112: a claim new to the list and to its vehicle enters it FIRM. -/
theorem mergeFirm_of_new {s : State} {x : Claim} (present : s.today ≤ x.day)
    (newId : ∀ c ∈ s.permits.claims, c.id ≠ x.id)
    (newVehicle : ∀ c ∈ s.permits.claims, c.of x.serial x.day = true → c.key ≠ x.key) :
    s.mergeFirm x = s.setClaims (enterClaim s.permits.claims { x with state := .firm, ageing := none }) := by
  have noId (st : ClaimState) : (s.permits.claims.any fun c => decide (c.id = x.id ∧ c.state = st)) = false :=
    List.any_eq_false.2 fun c mem => by simp [newId c mem]
  have other (c : Claim) (mem : c ∈ s.permits.claims) : (c.of x.serial x.day && decide (c.key = x.key)) = false := by
    cases same : c.of x.serial x.day
    · rfl
    · simp [newVehicle c mem same]
  have noVehicle (st : ClaimState) : (s.permits.claims.any fun c =>
      c.of x.serial x.day && decide (c.key = x.key) && decide (c.state = st)) = false :=
    List.any_eq_false.2 fun c mem => by simp [other c mem]
  simp only [State.mergeFirm, if_neg (Nat.not_lt.2 present), noId, noVehicle, Bool.false_eq_true, if_false]
  split
  · next c f current =>
    have mem : c ∈ s.permits.claims := List.mem_of_find?_eq_some (flight_of_current current).2
    rw [other c mem, if_neg (by simp)]
  · rfl

end Merge

/-! ### The end of a wait (R117) -/

section Wait
variable {s : State}

theorem permitsOnly_waitedFor (s : State) (id : ClaimId) : PermitsOnly s (s.waitedFor id) := by
  unfold State.waitedFor
  split
  · split
    · exact permitsOnly_endWait s
    · exact .refl s
  · exact .refl s

theorem waitedFor_of_other {id : ClaimId}
    (other : ∀ c f, s.permits.current = some (c, f) → f.waitFor.map ClaimRef.id ≠ some id) : s.waitedFor id = s := by
  unfold State.waitedFor
  split
  · next c f current => exact if_neg fun h => other c f current h.2
  · rfl

theorem waitedFor_of_idle {id : ClaimId} (idle : s.permits.Idle) : s.waitedFor id = s :=
  waitedFor_of_other fun c f current => by rw [idle.current] at current; cases current

theorem waitedFor_of_waiting {id : ClaimId} {c : Claim} {f : Flight} (current : s.permits.current = some (c, f))
    (waiting : c.state = .waiting) (named : f.waitFor.map ClaimRef.id = some id) : s.waitedFor id = s.endWait := by
  simp [State.waitedFor, current, waiting, named]

/-- R117: a FIRM or RELEASE of the claim waited for leaves none waiting. -/
theorem noWait_waitedFor {id : ClaimId} {c : Claim} {f : Flight} (waiting : c.state = .waiting)
    (named : f.waitFor.map ClaimRef.id = some id) (flight : s.permits.current = some (c, f) ∨ s.permits.Idle) :
    ∀ x ∈ (s.waitedFor id).permits.claims, x.state ≠ .waiting := by
  rcases flight with current | idle
  · rw [waitedFor_of_waiting current waiting named]
    exact (noWait_endWait current waiting).claims
  · rw [waitedFor_of_idle idle]
    exact fun x mem => state_ne_waiting (idle.notInFlight x mem)

theorem mem_endFlight {x c : Claim} {f : Flight} {o : ClaimOutcome} (h : x.inFlight = false) :
    x ∈ (s.endFlight c f o).permits.claims ↔ x ∈ s.permits.claims := by
  rw [endFlight_permits]
  simp [h]

theorem mem_setFlightState {x : Claim} {st : ClaimState} {f : Flight} (h : x.inFlight = false)
    (flying : st = .pending ∨ st = .waiting) : x ∈ (s.setFlightState st f).permits.claims ↔ x ∈ s.permits.claims := by
  show x ∈ s.permits.claims.map _ ↔ _
  rw [List.mem_map]
  constructor
  · rintro ⟨y, mem, rfl⟩
    split at h
    · rcases flying with rfl | rfl <;> cases h
    · next resting => rwa [if_neg resting]
  · exact fun mem => ⟨x, mem, if_neg (by simp [h])⟩

theorem mem_reopen {x c : Claim} {f : Flight} (h : x.inFlight = false) (pending : c.state = .pending) :
    x ∈ (s.reopen c f).permits.claims ↔ x ∈ s.permits.claims := by
  have handed := (sameBut_handOwn s (.claimOpen (openBody c f.allowance (f.attempts + 1)))).permits
  unfold State.reopen
  split
  · rfl
  split
  · exact mem_endFlight h
  dsimp only
  split
  · next e => rw [e] at handed; rw [mem_endFlight h, handed]
  · next e => rw [e] at handed; rw [mem_setFlightState h (.inl pending), handed]
  · next e => rw [e] at handed; rw [mem_setFlightState h (.inl pending), handed]

/-- R117: the end of a wait concerns the claim in flight alone. -/
theorem mem_waitedFor {x : Claim} {id : ClaimId} (h : x.inFlight = false) :
    x ∈ (s.waitedFor id).permits.claims ↔ x ∈ s.permits.claims := by
  have ends : x ∈ s.endWait.permits.claims ↔ x ∈ s.permits.claims := by
    unfold State.endWait
    split
    · rfl
    split
    · rfl
    dsimp only
    split
    · rw [mem_endFlight h, mem_setFlightState h (.inl rfl)]
    · rw [mem_reopen h rfl, mem_setFlightState h (.inl rfl)]
  unfold State.waitedFor
  split
  · split
    · exact ends
    · rfl
  · rfl

end Wait

/-! ### CLAIM FIRM and CLAIM RELEASE heard (R120) -/

theorem onClaimFirm_of_past {u : State} {b : ClaimFirmBody} (past : b.day < u.today) (id : ClaimId) :
    u.onClaimFirm id b = u := if_pos past

theorem onClaimFirm_of_present {u : State} {b : ClaimFirmBody} (present : u.today ≤ b.day) (id : ClaimId) :
    u.onClaimFirm id b =
      (u.mergeFirm (claimOf b.serial b.day { id, key := b.key, openTime := b.openTime })).waitedFor id :=
  if_neg (Nat.not_lt.2 present)

theorem permitsOnly_onClaimFirm (u : State) (id : ClaimId) (b : ClaimFirmBody) : PermitsOnly u (u.onClaimFirm id b) := by
  unfold State.onClaimFirm
  split
  · exact .refl u
  · exact (permitsOnly_mergeFirm u _).trans (permitsOnly_waitedFor _ _)

/-- R120: the list without the PROVISIONAL claims of an id. -/
def State.released (u : State) (id : ClaimId) : State :=
  u.setClaims (u.permits.claims.filter fun c => !decide (c.id = id ∧ c.state = .provisional))

theorem flight_released (u : State) (id : ClaimId) : SameFlight u.permits (u.released id).permits :=
  ⟨find_inFlight_filter (keep := fun c => !decide (c.id = id ∧ c.state = .provisional)) fun c inFlight => by
    simp only [Bool.not_eq_true', decide_eq_false_iff_not]
    intro provisional
    rw [notInFlight_of_state (.inl provisional.2)] at inFlight
    exact absurd inFlight (by simp), rfl⟩

theorem onClaimRelease_of_present {u : State} {b : ClaimReleaseBody} (present : u.today ≤ b.day) (id : ClaimId) :
    u.onClaimRelease id b = (u.released id).waitedFor id := if_neg (Nat.not_lt.2 present)

section Frames
variable {s u : State} {h : RxHeader} {r : Running}

theorem exec_claimFirmFrame {b : ClaimFirmBody} (acc : Accepts s h (fixedForm h .claim 17) false r u) :
    exec (.claimFirmFrame h b) s =
      .next ((u.onClaimFirm { origin := h.origin, seq := b.idSeq } b).relaying h r (.claimFirm b)) :=
  congrArg Host.Outcome.next (step_of_relayed (b := .claimFirm b) acc)

theorem exec_claimReleaseFrame {b : ClaimReleaseBody} (acc : Accepts s h (fixedForm h .claim 17) false r u) :
    exec (.claimReleaseFrame h b) s =
      .next ((u.onClaimRelease { origin := h.origin, seq := b.idSeq } b).relaying h r (.claimRelease b)) :=
  congrArg Host.Outcome.next (step_of_relayed (b := .claimRelease b) acc)

end Frames

/-- Settles O48. -/
theorem firmAndReleaseFramesMerge : Obligations.FirmAndReleaseFramesMerge := by
  refine ⟨fun s u h r b acc => ⟨fun past => ?firmPast, fun present held other => ?firmHeld,
      fun present c f current waiting named => ?firmWait⟩,
    fun s u h r b acc => ⟨fun past => ?releasePast, fun present c f current waiting named => ?releaseWait⟩,
    fun s u h r b acc present room new => ?firmNew, fun s u h r b acc present => ?released⟩
  case firmPast =>
    have own := onClaimFirm_of_past past { origin := h.origin, seq := b.idSeq }
    refine ⟨_, exec_claimFirmFrame acc, ?_, ?_⟩
    · exact (congrArg State.permits own : _)
    · exact (congrArg State.ret own : _)
  case firmHeld =>
    have merged := mergeFirm_of_provisional
      (x := claimOf b.serial b.day { id := ⟨h.origin, b.idSeq⟩, key := b.key, openTime := b.openTime }) present held
    have flight := flight_mergeFirm u
      (claimOf b.serial b.day { id := ⟨h.origin, b.idSeq⟩, key := b.key, openTime := b.openTime })
    have own : u.onClaimFirm ⟨h.origin, b.idSeq⟩ b = u.setClaims (u.permits.claims.map fun c =>
        if c.id = ClaimId.mk h.origin b.idSeq ∧ c.state = .provisional then { c with state := .firm, ageing := none }
        else c) := by
      rw [onClaimFirm_of_present present, waitedFor_of_other, merged]
      · rfl
      · intro c f current
        rcases flight with same | idle
        · exact other c f (same.current.symm.trans current)
        · rw [idle.current] at current
          cases current
    refine ⟨_, exec_claimFirmFrame acc, ?_⟩
    simp only [own, relaying_permits, relaying_cash, relaying_ret, relaying_stay]
    exact ⟨rfl, rfl, rfl, rfl, rfl⟩
  case firmWait =>
    refine ⟨_, exec_claimFirmFrame acc, ?_⟩
    rw [relaying_permits, onClaimFirm_of_present present]
    refine noWait_waitedFor waiting named ?_
    exact (flight_mergeFirm u _).imp (fun same => same.current.trans current) id
  case releasePast => exact ⟨_, exec_claimReleaseFrame acc, by simp [State.onClaimRelease, past],
      by simp [State.onClaimRelease, past]⟩
  case releaseWait =>
    refine ⟨_, exec_claimReleaseFrame acc, ?_⟩
    rw [relaying_permits, onClaimRelease_of_present present]
    exact noWait_waitedFor waiting named (.inl ((flight_released u _).current.trans current))
  case firmNew =>
    have frame := permitsOnly_onClaimFirm u ⟨h.origin, b.idSeq⟩ b
    have merged := mergeFirm_of_new
      (x := claimOf b.serial b.day { id := ⟨h.origin, b.idSeq⟩, key := b.key, openTime := b.openTime }) present
      (fun c mem => (new c mem).1) fun c mem => (new c mem).2
    refine ⟨_, exec_claimFirmFrame acc, ⟨Claim.mk b.serial b.day b.key ⟨h.origin, b.idSeq⟩ b.openTime .firm none, ?_,
        rfl, rfl, rfl, rfl, rfl, rfl⟩, frame.cash, frame.box⟩
    rw [relaying_permits, onClaimFirm_of_present present, merged, enterClaim_of_room room]
    refine (mem_waitedFor rfl).2 ?_
    exact List.mem_append_right _ (List.mem_singleton.2 rfl)
  case released =>
    have frame : PermitsOnly u ((u.released ⟨h.origin, b.idSeq⟩).waitedFor ⟨h.origin, b.idSeq⟩) :=
      (PermitsOnly.setPermits u _).trans (permitsOnly_waitedFor _ _)
    rw [← onClaimRelease_of_present present] at frame
    refine ⟨_, exec_claimReleaseFrame acc, fun c mem id provisional => ?_, frame.cash, frame.box⟩
    have mem : c ∈ (u.onClaimRelease ⟨h.origin, b.idSeq⟩ b).permits.claims := mem
    rw [onClaimRelease_of_present present, mem_waitedFor (notInFlight_of_state (.inl provisional))] at mem
    have kept := (List.mem_filter.1 mem).2
    simp [id, provisional] at kept

end Sys2Proof.Machine

/-! PROOF. OBJECT frames and CLAIM OPEN frames heard: O47 and O49. -/

namespace Sys2Proof.Machine

/-! ### The holder of a vehicle (R109) -/

theorem holder_isSome {p : PermitBlock} {serial day key : Nat} :
    (p.holder serial day key).isSome = true ↔
      ∃ c ∈ p.claims, c.of serial day = true ∧ c.key = key ∧ c.state = .firm := by
  simp [PermitBlock.holder]

/-- R112: a merge into a list with room leaves a FIRM claim of the vehicle, unless one of its id stood in the way. -/
theorem holder_mergeFirm {s : State} {x : Claim} (present : s.today ≤ x.day) (room : s.permits.claims.length < 160)
    (newId : ∀ c ∈ s.permits.claims, c.id ≠ x.id) :
    ((s.mergeFirm x).permits.holder x.serial x.day x.key).isSome = true := by
  have noId (st : ClaimState) : (s.permits.claims.any fun c => decide (c.id = x.id ∧ c.state = st)) = false :=
    List.any_eq_false.2 fun c mem => by simp [newId c mem]
  have entered (cs : List Claim) (fits : cs.length < 160) :
      ∃ c ∈ enterClaim cs { x with state := .firm, ageing := none }, c.of x.serial x.day = true ∧ c.key = x.key ∧
        c.state = .firm := by
    rw [enterClaim_of_room fits]
    exact ⟨_, List.mem_append_right _ (List.mem_singleton.2 rfl), by simp [Claim.of], rfl, rfl⟩
  rw [holder_isSome]
  simp only [State.mergeFirm, if_neg (Nat.not_lt.2 present), noId, Bool.false_eq_true, if_false]
  split
  · next held =>
    obtain ⟨c, mem, same⟩ := List.any_eq_true.1 held
    simp only [Bool.and_eq_true, decide_eq_true_eq] at same
    exact ⟨c, mem, same.1.1, same.1.2, same.2⟩
  split
  · exact entered _ (Nat.lt_of_le_of_lt (List.length_filter_le _ _) room)
  split
  · next c f current =>
    split
    · refine entered _ ?_
      rw [endFlight_permits]
      exact Nat.lt_of_le_of_lt (List.length_filter_le _ _) room
    · exact entered _ room
  · exact entered _ room

/-! ### OBJECT frames heard (R116, R117) -/

section Objects
variable {s u : State} {h : RxHeader} {r : Running}

theorem exec_objectHeldFrame {b : ObjectOneBody} (acc : Accepts s h (fixedForm h .urgent 18) false r u) :
    exec (.objectHeldFrame h b) s = .next ((u.onObjectHeld b).relaying h r (.objectHeld b)) :=
  congrArg Host.Outcome.next (step_of_relayed (b := .objectHeld b) acc)

theorem exec_objectConcurrentFrame {b : ObjectOneBody} (acc : Accepts s h (fixedForm h .urgent 18) false r u) :
    exec (.objectConcurrentFrame h b) s = .next ((u.onObjectConcurrent b).relaying h r (.objectConcurrent b)) :=
  congrArg Host.Outcome.next (step_of_relayed (b := .objectConcurrent b) acc)

theorem exec_objectCountFrame {b : ObjectCountBody} (one : 1 ≤ b.carried.length) (four : b.carried.length ≤ 4)
    (acc : Accepts s h
      { classOk := decide (h.cls = .urgent), length := 9 + 9 * b.carried.length, countOk := true } false r u) :
    exec (.objectCountFrame h b) s = .next ((u.onObjectCount b).relaying h r (.objectCount b)) := by
  have countOk : decide (1 ≤ b.carried.length ∧ b.carried.length ≤ 4) = true := decide_eq_true ⟨one, four⟩
  rw [← countOk] at acc
  exact congrArg Host.Outcome.next (step_of_relayed (b := .objectCount b) acc)

theorem current_of_targeted {p : PermitBlock} {id : ClaimId} {c : Claim} {f : Flight} (h : p.targeted id = some (c, f)) :
    p.current = some (c, f) := (Option.filter_eq_some_iff.1 h).1

theorem permitsOnly_mergeFirms (xs : List Claim) (u : State) : PermitsOnly u (xs.foldl State.mergeFirm u) := by
  induction xs generalizing u with
  | nil => exact .refl u
  | cons x xs ih => exact (permitsOnly_mergeFirm u x).trans (ih _)

/-- R116: an OBJECT HELD for the claim in flight leaves none in flight. -/
theorem idle_onObjectHeld {b : ObjectOneBody} {c : Claim} {f : Flight} (target : u.permits.targeted b.target = some (c, f)) :
    (u.onObjectHeld b).permits.Idle ∧ PermitsOnly u (u.onObjectHeld b) := by
  simp only [State.onObjectHeld, target]
  refine ⟨?_, (permitsOnly_endFlight u c f _).trans (permitsOnly_mergeFirm _ _)⟩
  have ended : (u.endFlight c f (.alreadyHeld (claimOf b.serial b.day b.carried).ref)).permits.Idle := by
    rw [endFlight_permits]
    exact idle_of_claims (fun x mem => mem_filter_not_inFlight mem) rfl
  exact (flight_mergeFirm _ _).elim ended.of_same id

/-- R117: a claim that precedes the PENDING claim in flight makes it wait. -/
theorem concurrent_of_precedes {x : ClaimRef} {c : Claim} {f : Flight} (current : u.permits.current = some (c, f))
    (pending : c.state = .pending) (precedes : claimPrecedes x c.ref = true) :
    u.concurrent x = u.setFlightState .waiting { f with window := none, waitFor := some x, waitTimer := some 10 } := by
  simp [State.concurrent, current, precedes, pending]

theorem concurrent_of_not_precedes {x : ClaimRef} {c : Claim} {f : Flight} (current : u.permits.current = some (c, f))
    (follows : claimPrecedes x c.ref = false) : u.concurrent x = u := by
  simp [State.concurrent, current, follows]

theorem concurrent_chan (u : State) (x : ClaimRef) : (u.concurrent x).chan = u.chan := by
  unfold State.concurrent
  split
  · rfl
  split
  · rfl
  split
  · split <;> rfl
  · rfl

/-- R114: an OPEN handed into a queue with room awaits its transmission. -/
theorem reopen_of_room {c : Claim} {f : Flight} (running : u.link.running = some r) (onChannel : r.number ≠ 0)
    (room : u.chan.queue.length < 16) (sent : f.awaiting = false) (few : f.attempts < 3) :
    (u.reopen c f).permits.flight = some { f with attempts := f.attempts + 1, window := none, awaiting := true } ∧
      ownEntry (.claimOpen (openBody c f.allowance (f.attempts + 1))) r.number ((u.ret.seq + 1) % 65536) ∈
        (u.reopen c f).chan.queue := by
  have handed := handOwn_eq_of_room (.claimOpen (openBody c f.allowance (f.attempts + 1))) running onChannel room
  have notMany : ¬ 3 ≤ f.attempts := Nat.not_le.2 few
  simp only [State.reopen, sent, Bool.false_eq_true, if_false, notMany, handed]
  exact ⟨rfl, List.mem_append_right _ (List.mem_singleton.2 rfl)⟩

/-- Settles O49. -/
theorem objectFramesDecide : Obligations.ObjectFramesDecide := by
  refine ⟨fun s u h r b c f acc target => ?heldFrame, fun s u h r b c f acc target pending precedes => ?waits,
    fun s u h r b acc none => ⟨fun other => ?ignored, fun own present room newId => ?late⟩,
    fun s u h r b c f acc one four target => ?count,
    fun s u h r b x acc carried none present room newId => ?evidence⟩
  case heldFrame =>
    obtain ⟨idle, frame⟩ := idle_onObjectHeld target
    exact ⟨_, exec_objectHeldFrame acc, idle.flight, idle.notInFlight, frame.cash, frame.box⟩
  case waits =>
    have own : u.onObjectConcurrent b = u.setFlightState .waiting
        { f with window := none, waitFor := some ⟨b.carried.id, b.carried.openTime⟩, waitTimer := some 10 } := by
      rw [State.onObjectConcurrent, target]
      exact concurrent_of_precedes (current_of_targeted target) pending precedes
    refine ⟨_, exec_objectConcurrentFrame acc, ?_⟩
    simp only [own, relaying_permits, relaying_cash, relaying_ret]
    exact ⟨rfl, rfl, rfl, rfl⟩
  case ignored =>
    have own : u.onObjectConcurrent b = u := by
      rw [State.onObjectConcurrent, none]
      exact if_neg fun same => other (same.trans (own_of_running acc.running.1))
    exact ⟨_, exec_objectConcurrentFrame acc, by rw [relaying_permits, own], by rw [relaying_ret, own]⟩
  case late =>
    have merges : u.onObjectConcurrent b = u.mergeFirm (claimOf b.serial b.day b.carried) := by
      rw [State.onObjectConcurrent, none]
      exact if_pos (own.trans (own_of_running acc.running.1).symm)
    have frame := permitsOnly_mergeFirm u (claimOf b.serial b.day b.carried)
    refine ⟨_, exec_objectConcurrentFrame acc, ?_⟩
    simp only [merges, relaying_permits, relaying_cash, relaying_ret]
    exact ⟨holder_mergeFirm (x := claimOf b.serial b.day b.carried) present room newId, frame.cash, frame.box⟩
  case count =>
    intro merged again
    have step := exec_objectCountFrame one four acc
    obtain ⟨running, onChannel⟩ := acc.running
    have frame : PermitsOnly u merged := permitsOnly_mergeFirms _ u
    obtain ⟨y, targeted⟩ := Option.isSome_iff_exists.1 target
    have own : u.onObjectCount b = ((flightVerdict merged.permits c f).map fun o => merged.endFlight c f o).getD
        (if c.state = .waiting ∨ f.awaiting then merged else merged.reopen c f) := by
      simp only [State.onObjectCount, targeted, again, merged]
      split
      · next verdict => rw [verdict]; rfl
      · next verdict => rw [verdict]; rfl
    refine ⟨fun o verdict => ⟨_, step, ?_⟩, fun verdict still => ⟨_, step, ?_⟩,
      fun verdict pending sent => ⟨fun many => ⟨_, step, ?_⟩, fun few room => ⟨_, step, ?_⟩⟩⟩
    · rw [relaying_permits, own, verdict, Option.map_some, Option.getD_some, endFlight_permits]
      exact ⟨rfl, rfl⟩
    · rw [relaying_permits, own, verdict, Option.map_none, Option.getD_none, if_pos still]
    · have ends : merged.reopen c f = merged.endFlight c f .deniedZoneBusy := by simp [State.reopen, sent, many]
      rw [relaying_permits, own, verdict, Option.map_none, Option.getD_none, if_neg (by simp [pending, sent]), ends,
        endFlight_permits]
      exact ⟨rfl, rfl⟩
    · obtain ⟨flight, entry⟩ := reopen_of_room (c := c) (frame.running.trans running) onChannel room sent few
      rw [relaying_permits, relaying_queue, own, verdict, Option.map_none, Option.getD_none,
        if_neg (by simp [pending, sent])]
      exact ⟨flight, mem_relayed entry⟩
  case evidence =>
    have one : b.carried.length = 1 := by rw [carried]; rfl
    have form : Accepts s h { classOk := decide (h.cls = .urgent), length := 9 + 9 * b.carried.length, countOk := true }
        false r u := by
      rw [one]
      exact acc
    have own : u.onObjectCount b = u.mergeFirm (claimOf b.serial b.day x) := by
      simp only [State.onObjectCount, none, carried]
      rfl
    have frame := permitsOnly_mergeFirm u (claimOf b.serial b.day x)
    refine ⟨_, exec_objectCountFrame (by omega) (by omega) form, ?_⟩
    simp only [own, relaying_permits, relaying_cash, relaying_ret]
    exact ⟨holder_mergeFirm (x := claimOf b.serial b.day x) present room newId, frame.cash, frame.box⟩

end Objects

/-! ### CLAIM OPEN heard (R119) -/

section Open
variable {u : State} {id : ClaimId} {b : ClaimOpenBody}

/-- R119: the claim that an accepted CLAIM OPEN inserts. -/
def provisionalOf (id : ClaimId) (b : ClaimOpenBody) : Claim := Claim.mk b.serial b.day b.key id b.openTime .provisional
    (some 30)

theorem insertProvisional_of_room {cs : List Claim} (room : cs.length < 160) :
    u.insertProvisional cs id b = u.setClaims (cs ++ [provisionalOf id b]) := by
  rw [State.insertProvisional, enterClaim_of_room room]
  rfl

theorem onClaimOpen_of_past (past : b.day < u.today) : u.onClaimOpen id b = u := if_pos past

theorem onClaimOpen_of_firm (held : ∃ c ∈ u.permits.claims, c.id = id ∧ c.state = .firm) : u.onClaimOpen id b = u := by
  have any : (u.permits.claims.any fun c => decide (c.id = id ∧ c.state = .firm)) = true := by simpa using held
  rw [State.onClaimOpen, if_pos any, ite_self]

/-- R119: what is not ignored is judged, without the PROVISIONAL claims of its id. -/
theorem onClaimOpen_of_judged (present : u.today ≤ b.day) (notFirm : ∀ c ∈ u.permits.claims, c.id = id → c.state ≠ .firm) :
    u.onClaimOpen id b = (u.released id).judgeOpen id b := by
  have none : (u.permits.claims.any fun c => decide (c.id = id ∧ c.state = .firm)) = false :=
    List.any_eq_false.2 fun c mem => by
      simp only [decide_eq_true_eq, not_and]
      exact notFirm c mem
  simp only [State.onClaimOpen, if_neg (Nat.not_lt.2 present), none, Bool.false_eq_true, if_false]
  rfl

theorem released_of_new (newId : ∀ c ∈ u.permits.claims, c.id ≠ id) : u.released id = u := by
  have kept : (u.permits.claims.filter fun c => !decide (c.id = id ∧ c.state = .provisional)) = u.permits.claims :=
    List.filter_eq_self.2 fun c mem => by simp [newId c mem]
  rw [State.released, kept]
  rfl

/-- R109: a book with no claim on the day has no vehicles. -/
theorem firmByVehicle_of_none {serial day : Nat} {cs : List Claim} (h : ∀ c ∈ cs, c.of serial day = false) :
    firmByVehicle serial day cs = [] := by
  unfold firmByVehicle
  suffices ∀ acc : List Claim, cs.foldl (fun acc c =>
      if c.of serial day && decide (c.state = .firm) && !acc.any (fun d => decide (d.key = c.key)) then acc ++ [c] else acc)
        acc = acc from this []
  induction cs with
  | nil => exact fun _ => rfl
  | cons c cs ih =>
    intro acc
    rw [List.foldl_cons, if_neg (by simp [h c (by simp)])]
    exact ih (fun d mem => h d (by simp [mem])) acc

/-- R119: a claim of a book without one on the day is inserted. -/
theorem judgeOpen_of_none {v : State} (allowed : 1 ≤ b.allowance) (room : v.permits.claims.length < 160)
    (none : ∀ c ∈ v.permits.claims, c.of b.serial b.day = false) :
    v.judgeOpen id b = v.setClaims (v.permits.claims ++ [provisionalOf id b]) := by
  have holder : v.permits.holder b.serial b.day b.key = Option.none :=
    List.find?_eq_none.2 fun c mem => by simp [none c mem]
  have vehicles : ¬ b.allowance ≤ v.permits.vehicles b.serial b.day := by
    rw [PermitBlock.vehicles, firmByVehicle_of_none none]
    exact Nat.not_le.2 allowed
  have flying : v.permits.claims.find? (fun c => c.inFlight && c.of b.serial b.day) = Option.none :=
    List.find?_eq_none.2 fun c mem => by simp [none c mem]
  have waiting : v.permits.claims.find? (fun c => c.of b.serial b.day && decide (c.key = b.key ∧ c.state = .provisional)) =
      Option.none := List.find?_eq_none.2 fun c mem => by simp [none c mem]
  simp only [State.judgeOpen, holder, if_neg vehicles, flying, waiting, insertProvisional_of_room room]

end Open

section Judged
variable {u : State} {id : ClaimId} {b : ClaimOpenBody}

theorem judgeOpen_of_holder {c : Claim} (holder : u.permits.holder b.serial b.day b.key = some c) :
    u.judgeOpen id b =
      (u.handOwn (.objectHeld { target := id, serial := b.serial, day := b.day, carried := carriedOf c })).1 := by
  simp only [State.judgeOpen, holder]

theorem judgeOpen_of_used (holder : u.permits.holder b.serial b.day b.key = none)
    (used : b.allowance ≤ u.permits.vehicles b.serial b.day) : u.judgeOpen id b =
      (u.handOwn (.objectCount { target := id, serial := b.serial, day := b.day
                                 carried := ((firmByVehicle b.serial b.day u.permits.claims).take 4).map carriedOf })).1 := by
  simp only [State.judgeOpen, holder, if_pos used]

/-- R119: the claim in flight of the book on the day is the one in flight. -/
theorem find_inFlight_of {c : Claim} {f : Flight} (current : u.permits.current = some (c, f))
    (same : c.of b.serial b.day = true) :
    u.permits.claims.find? (fun c => c.inFlight && c.of b.serial b.day) = some c := by
  obtain ⟨flying, before, after, split, first⟩ := List.find?_eq_some_iff_append.1 (flight_of_current current).2
  refine List.find?_eq_some_iff_append.2 ⟨by simp [flying, same], before, after, split, fun x mem => ?_⟩
  have resting : x.inFlight = false := by simpa using first x mem
  simp [resting]

theorem judgeOpen_of_inFlight {c : Claim} {f : Flight} (holder : u.permits.holder b.serial b.day b.key = none)
    (free : u.permits.vehicles b.serial b.day < b.allowance) (current : u.permits.current = some (c, f))
    (same : c.of b.serial b.day = true) : u.judgeOpen id b =
      ((u.handOwn
        (.objectConcurrent { target := id, serial := b.serial, day := b.day, carried := carriedOf c })).1).concurrent
        { id, openTime := b.openTime } := by
  simp only [State.judgeOpen, holder, if_neg (Nat.not_le.2 free), find_inFlight_of current same]

/-- R119: with no claim of the book in flight the PROVISIONAL claim of the vehicle is compared with the arriving one. -/
theorem judgeOpen_of_provisional {before after : List Claim} {c : Claim}
    (holder : u.permits.holder b.serial b.day b.key = none) (free : u.permits.vehicles b.serial b.day < b.allowance)
    (resting : ∀ x ∈ u.permits.claims, x.inFlight = true → x.of b.serial b.day = false)
    (claims : u.permits.claims = before ++ c :: after) (same : c.of b.serial b.day = true) (key : c.key = b.key)
    (provisional : c.state = .provisional)
    (first : ∀ x ∈ before, x.of b.serial b.day = true → x.key = b.key → x.state ≠ .provisional) :
    u.judgeOpen id b =
      if claimPrecedes c.ref { id, openTime := b.openTime } then
        (u.handOwn (.objectConcurrent { target := id, serial := b.serial, day := b.day, carried := carriedOf c })).1
      else u.insertProvisional (u.permits.claims.erase c) id b := by
  have flying : u.permits.claims.find? (fun c => c.inFlight && c.of b.serial b.day) = none :=
    List.find?_eq_none.2 fun x mem => by
      rw [Bool.and_eq_true]
      rintro ⟨inFlight, of⟩
      rw [resting x mem inFlight] at of
      cases of
  have found : u.permits.claims.find? (fun c => c.of b.serial b.day && decide (c.key = b.key ∧ c.state = .provisional)) =
      some c := by
    refine List.find?_eq_some_iff_append.2 ⟨by simp [same, key, provisional], before, after, claims, fun x mem => ?_⟩
    simp only [Bool.not_eq_true', Bool.and_eq_false_iff, decide_eq_false_iff_not]
    by_cases of : x.of b.serial b.day = true
    · exact .inr fun held => first x mem of held.1 held.2
    · exact .inl (by simpa using of)
  simp only [State.judgeOpen, holder, if_neg (Nat.not_le.2 free), flying, found]

end Judged

theorem exec_claimOpenFrame {s u : State} {h : RxHeader} {r : Running} {b : ClaimOpenBody}
    (acc : Accepts s h (fixedForm h .claim 17) false r u) : exec (.claimOpenFrame h b) s =
      .next ((u.onClaimOpen (openFrameId h.origin h.seq b) b).relaying h r (.claimOpen b)) :=
  congrArg Host.Outcome.next (step_of_relayed (b := .claimOpen b) acc)

/-- R119: an OBJECT handed into a queue with room leaves the claims, and its entry in the queue, copy or none behind it. -/
theorem handed_object {u : State} {r : Running} (x : QueuedBody) (running : u.link.running = some r) (onChannel :
    r.number ≠ 0)
    (room : u.chan.queue.length < 16) : (u.handOwn x).1.permits = u.permits ∧
      ownEntry x r.number ((u.ret.seq + 1) % 65536) ∈ (u.handOwn x).1.chan.queue := by
  rw [handOwn_eq_of_room x running onChannel room]
  exact ⟨rfl, List.mem_append_right _ (List.mem_singleton.2 rfl)⟩

/-- Settles O47. -/
theorem claimOpenFrameInserts : Obligations.ClaimOpenFrameInserts := by
  intro s u h r b acc
  have step := exec_claimOpenFrame (b := b) acc
  obtain ⟨running, onChannel⟩ := acc.running
  generalize idEq : openFrameId h.origin h.seq b = id at step ⊢
  refine ⟨fun past => ?past, fun present allowed room new => ?inserted, fun firm => ?firm,
    fun present allowed room again => ?reinserted, fun present newId room => ?answered⟩
  case past =>
    rw [onClaimOpen_of_past past] at step
    exact ⟨_, step, rfl⟩
  case inserted =>
    have newId (c : Claim) (mem : c ∈ u.permits.claims) : c.id ≠ id := (new c mem).2
    rw [onClaimOpen_of_judged present (fun c mem same => absurd same (newId c mem)), released_of_new newId,
      judgeOpen_of_none allowed room fun c mem => (new c mem).1] at step
    exact ⟨_, step, rfl, rfl, rfl, rfl, rfl⟩
  case firm =>
    rw [onClaimOpen_of_firm firm] at step
    exact ⟨_, step, rfl, rfl, rfl, rfl, rfl⟩
  case reinserted =>
    have kept : (u.released id).permits.claims = u.permits.claims.filter fun c => decide (c.id ≠ id) := by
      refine List.filter_congr fun c mem => ?_
      by_cases same : c.id = id
      · simp [same, (again c mem).1 same]
      · simp [same]
    have room : (u.released id).permits.claims.length < 160 := Nat.lt_of_le_of_lt (List.length_filter_le _ _) room
    have none (c : Claim) (mem : c ∈ (u.released id).permits.claims) : c.of b.serial b.day = false := by
      rw [kept, List.mem_filter, decide_eq_true_eq] at mem
      cases of : c.of b.serial b.day
      · rfl
      · exact absurd ((again c mem.1).2 of) mem.2
    have notFirm (c : Claim) (mem : c ∈ u.permits.claims) (same : c.id = id) : c.state ≠ .firm := by
      rw [(again c mem).1 same]
      nofun
    rw [onClaimOpen_of_judged present notFirm, judgeOpen_of_none allowed room none, kept] at step
    exact ⟨_, step, rfl, rfl, rfl, rfl, rfl⟩
  case answered =>
    dsimp only
    rw [onClaimOpen_of_judged present (fun c mem same => absurd same (newId c mem)), released_of_new newId] at step
    refine ⟨fun c holder => ?held, fun holder used => ?used, fun holder free => ⟨fun c f current same => ?flying,
      fun resting before c after claims same key provisional first absent => ⟨fun precedes => ?told,
          fun follows fits => ?gives⟩⟩⟩
    case held =>
      rw [judgeOpen_of_holder holder] at step
      obtain ⟨permits, entry⟩ := handed_object (.objectHeld ⟨id, b.serial, b.day, carriedOf c⟩) running onChannel room
      exact ⟨_, step, permits, mem_relayed entry⟩
    case used =>
      rw [judgeOpen_of_used holder used] at step
      obtain ⟨permits, entry⟩ := handed_object (.objectCount ⟨id, b.serial, b.day,
        ((firmByVehicle b.serial b.day u.permits.claims).take 4).map carriedOf⟩) running onChannel room
      exact ⟨_, step, permits, mem_relayed entry⟩
    case flying =>
      rw [judgeOpen_of_inFlight holder free current same] at step
      obtain ⟨permits, entry⟩ := handed_object (.objectConcurrent ⟨id, b.serial, b.day, carriedOf c⟩) running onChannel room
      have current : (u.handOwn (.objectConcurrent ⟨id, b.serial, b.day, carriedOf c⟩)).1.permits.current = some (c, f) := by
        rw [permits, current]
      refine ⟨_, step, ?_, fun follows => ?_, fun precedes pending => ?_⟩
      · rw [relaying_queue, concurrent_chan]
        exact mem_relayed entry
      · rw [relaying_permits, concurrent_of_not_precedes current follows, permits]
      · rw [relaying_permits, concurrent_of_precedes current pending precedes]
        show PermitBlock.mk _ _ = _
        rw [permits]
    case told =>
      rw [judgeOpen_of_provisional holder free resting claims same key provisional first, if_pos precedes] at step
      obtain ⟨permits, entry⟩ := handed_object (.objectConcurrent ⟨id, b.serial, b.day, carriedOf c⟩) running onChannel room
      exact ⟨_, step, permits, mem_relayed entry⟩
    case gives =>
      have rest : u.permits.claims.erase c = before ++ after := by
        rw [claims, List.erase_append_right _ absent, List.erase_cons_head]
      have room : (before ++ after).length < 160 := by
        rw [claims] at fits
        simp only [List.length_append, List.length_cons] at fits ⊢
        omega
      rw [judgeOpen_of_provisional holder free resting claims same key provisional first, if_neg (by simp [follows]), rest,
        insertProvisional_of_room room] at step
      exact ⟨_, step, rfl, rfl⟩

end Sys2Proof.Machine

/-! PROOF. Collection rounds heard: adopted, filed, folded and closed: O50. -/

namespace Sys2Proof.Machine

/-! ### Round entries (R140, R143) -/

section Entries
variable {e : RoundEntry} {es : List RoundEntry}

theorem mem_putEntry_self : e ∈ putEntry e es := by
  induction es with
  | nil => simp [putEntry]
  | cons x xs ih =>
    unfold putEntry
    split
    · simp
    split
    · simp
    · simp [ih]

theorem mem_of_mem_putEntry {y : RoundEntry} (h : y ∈ putEntry e es) : y = e ∨ y ∈ es := by
  induction es with
  | nil => simpa [putEntry] using h
  | cons x xs ih =>
    unfold putEntry at h
    split at h
    · simpa using h
    split at h
    · exact (List.mem_cons.1 h).imp id (List.mem_cons_of_mem x)
    · rcases List.mem_cons.1 h with rfl | mem
      · simp
      · exact (ih mem).imp id (List.mem_cons_of_mem x)

/-- R140: an entry put keeps the order of station number. -/
theorem pairwise_putEntry (h : es.Pairwise fun x y => x.station < y.station) :
    (putEntry e es).Pairwise fun x y => x.station < y.station := by
  induction es with
  | nil => simp [putEntry]
  | cons x xs ih =>
    obtain ⟨first, rest⟩ := List.pairwise_cons.1 h
    unfold putEntry
    split
    · next before =>
      refine List.pairwise_cons.2 ⟨fun y mem => ?_, h⟩
      rcases List.mem_cons.1 mem with rfl | mem
      · exact before
      · exact before.trans (first y mem)
    split
    · next same => exact List.pairwise_cons.2 ⟨fun y mem => same ▸ first y mem, rest⟩
    · next notBefore other =>
      refine List.pairwise_cons.2 ⟨fun y mem => ?_, ih rest⟩
      rcases mem_of_mem_putEntry mem with rfl | mem
      · omega
      · exact first y mem

theorem find_putEntry_other {n : Nat} (other : n ≠ e.station) :
    (putEntry e es).find? (fun x => decide (x.station = n)) = es.find? fun x => decide (x.station = n) := by
  have skip : decide (e.station = n) = false := decide_eq_false (Ne.symm other)
  induction es with
  | nil => simp [putEntry, skip]
  | cons x xs ih =>
    unfold putEntry
    split
    · rw [List.find?_cons_of_neg (by simp [skip])]
    split
    · next same => rw [List.find?_cons_of_neg (by simp [skip]), List.find?_cons_of_neg (by simp [← same, skip])]
    · rw [List.find?_cons, List.find?_cons, ih]

/-- R140: each station has one entry. -/
theorem find_of_station {x : RoundEntry} (order : es.Pairwise fun x y => x.station < y.station) (mem : x ∈ es) {n : Nat}
    (station : x.station = n) : es.find? (fun x => decide (x.station = n)) = some x := by
  induction es with
  | nil => cases mem
  | cons y ys ih =>
    obtain ⟨first, rest⟩ := List.pairwise_cons.1 order
    rcases List.mem_cons.1 mem with rfl | mem
    · simp [station]
    · have other : ¬ decide (y.station = n) = true := by
        have := first x mem
        rw [decide_eq_true_eq]
        omega
      exact (List.find?_cons_of_neg (p := fun x : RoundEntry => decide (x.station = n)) other).trans (ih rest mem)

/-- R143: an entry folded is put under its station, or changes nothing. -/
theorem foldEntry_cases (own : Nat) (es : List RoundEntry) (e : RoundEntry) :
    (∃ y, y.station = e.station ∧ foldEntry own es e = putEntry y es) ∨ foldEntry own es e = es := by
  unfold foldEntry
  split
  · exact .inl ⟨e, rfl, rfl⟩
  split
  · next same => exact .inl ⟨_, same.symm, rfl⟩
  split
  · exact .inl ⟨e, rfl, rfl⟩
  · exact .inr rfl

theorem foldEntry_of_new {own : Nat} (new : ∀ x ∈ es, x.station ≠ e.station) : foldEntry own es e = putEntry e es := by
  have none : es.find? (fun x => decide (x.station = e.station)) = none :=
    List.find?_eq_none.2 fun x mem => by simpa using new x mem
  simp only [foldEntry, none]

theorem foldEntry_of_held {own : Nat} {x : RoundEntry} (order : es.Pairwise fun x y => x.station < y.station) (mem : x ∈ es)
    (station : x.station = e.station) : foldEntry own es e =
      if e.station = own then
        putEntry (RoundEntry.mk own (max x.lastAt e.lastAt) (addLong x.items e.items) (addLong x.value e.value)) es
      else if x.lastAt < e.lastAt then putEntry e es else es := by
  simp only [foldEntry, find_of_station order mem station]

/-- R143: the whole of what the folding of one entry does. -/
theorem foldEntry_folds (own : Nat) (es : List RoundEntry) (e : RoundEntry)
    (order : es.Pairwise fun x y => x.station < y.station) :
    (foldEntry own es e).Pairwise (fun x y => x.station < y.station) ∧
    (∀ n, n ≠ e.station → (foldEntry own es e).find? (fun x => decide (x.station = n)) =
      es.find? fun x => decide (x.station = n)) ∧
    ((∀ x ∈ es, x.station ≠ e.station) → e ∈ foldEntry own es e) ∧
    ∀ x ∈ es, x.station = e.station →
      (e.station = own → RoundEntry.mk own (max x.lastAt e.lastAt) (addLong x.items e.items) (addLong x.value e.value) ∈
        foldEntry own es e) ∧
      (e.station ≠ own → (if x.lastAt < e.lastAt then e else x) ∈ foldEntry own es e) := by
  refine ⟨?_, fun n other => ?_, fun new => ?_, fun x mem station => ⟨fun isOwn => ?_, fun notOwn => ?_⟩⟩
  · rcases foldEntry_cases own es e with ⟨y, -, put⟩ | same
    · rw [put]
      exact pairwise_putEntry order
    · rwa [same]
  · rcases foldEntry_cases own es e with ⟨y, station, put⟩ | same
    · rw [put, find_putEntry_other (by rw [station]; exact other)]
    · rw [same]
  · rw [foldEntry_of_new new]
    exact mem_putEntry_self
  · rw [foldEntry_of_held order mem station, if_pos isOwn]
    exact mem_putEntry_self
  · rw [foldEntry_of_held order mem station, if_neg notOwn]
    split
    · exact mem_putEntry_self
    · exact mem

end Entries

/-! ### A round id heard (R142, R143) -/

section Heard
variable {u : State} {id : RoundId} {w : RoundWord}

/-- R142: of a heard round that has not expired, what the station does with it, by the current round. -/
theorem onRound_of_none (stands : roundExpired id u.ret.clock.time = false) (none : u.ret.round = none) (word : w ≠ .closed) :
    u.onRound id w = u.adoptRound id w := by
  have stands : roundExpired id u.now = false := stands
  simp only [State.onRound, stands, none, word, Bool.false_eq_true, if_false]

theorem onRound_of_same {x : Round} (stands : roundExpired id u.ret.clock.time = false) (round : u.ret.round = some x)
    (same : x.id = id) : u.onRound id w = u.sameRound x w := by
  have stands : roundExpired id u.now = false := stands
  simp only [State.onRound, stands, round, same, Bool.false_eq_true, if_false, if_true]

theorem onRound_of_open {y : Round} (stands : roundExpired id u.ret.clock.time = false) (round : u.ret.round = some y)
    (isOpen : y.isOpen = true) (other : id ≠ y.id) (word : w ≠ .closed) :
    u.onRound id w = if roundPrecedes id y.id then u.foldRound y id w else u := by
  have stands : roundExpired id u.now = false := stands
  simp only [State.onRound, stands, round, Ne.symm other, isOpen, word, Bool.false_eq_true, if_false, if_true]

theorem onRound_of_closed {y : Round} (stands : roundExpired id u.ret.clock.time = false) (round : u.ret.round = some y)
    (closed : y.isOpen = false) (other : id ≠ y.id) (word : w ≠ .closed) :
    u.onRound id w = if y.id.time < id.time then u.adoptRound id w else u := by
  have stands : roundExpired id u.now = false := stands
  simp only [State.onRound, stands, round, Ne.symm other, closed, word, Bool.false_eq_true, if_false]

/-- R142: a CLOSED round of an earlier opening time, or none, gives way to a heard round. -/
theorem onRound_of_later (stands : roundExpired id u.ret.clock.time = false) (word : w ≠ .closed)
    (later : ∀ y, u.ret.round = some y → y.isOpen = false ∧ id ≠ y.id ∧ y.id.time < id.time) :
    u.onRound id w = u.adoptRound id w := by
  cases round : u.ret.round with
  | none => exact onRound_of_none stands round word
  | some y =>
    obtain ⟨closed, other, lt⟩ := later y round
    rw [onRound_of_closed stands round closed other word, if_pos lt]

/-- R142: a CLOSED round stands against a heard one not later. -/
theorem onRound_of_earlier {y : Round} (stands : roundExpired id u.ret.clock.time = false) (word : w ≠ .closed)
    (round : u.ret.round = some y) (closed : y.isOpen = false) (other : id ≠ y.id) (notLater : id.time ≤ y.id.time) :
    u.onRound id w = u := by
  rw [onRound_of_closed stands round closed other word, if_neg (Nat.not_lt.2 notLater)]

end Heard

theorem giveRound_link (u : State) (c : RoundCause) : ∃ ns, u.giveRound c = u.setLink { u.link with notices := ns } := by
  unfold State.giveRound
  split
  · exact ⟨u.link.notices, rfl⟩
  · exact give_eq u _

/-- R142: an adopted round is the current one, and nothing else of the station changes but notices. -/
theorem adoptRound_eq (u : State) (id : RoundId) (w : RoundWord) : ∃ v : MachineLink, u.adoptRound id w =
    (u.setRound (some (Round.mk id w.collector true w.entries none))).setLink v := by
  obtain ⟨ns, given⟩ := giveRound_link (u.setRound (some (Round.mk id w.collector true w.entries none))) .adopted
  exact ⟨_, given⟩

theorem onlyReports_foldRound (u : State) (y : Round) (id : RoundId) (w : RoundWord) :
    OnlyReports (u.setRet { u.ret with
      round := some (Round.mk id w.collector true (y.entries.foldl (foldEntry u.own) w.entries) y.unplaced)
      lastCollection := u.ret.lastCollection.map fun c => if c.round = some y.id then { c with round := some id } else c })
      (u.foldRound y id w) :=
  (onlyReports_handEntry _).trans (onlyReports_giveRound _ _)

theorem sameRound_closed {u : State} {x : Round} (round : u.ret.round = some x) : ∃ v : MachineLink,
    u.sameRound x .closed = (u.setRound (some { x with isOpen := false })).setLink v := by
  cases isOpen : x.isOpen with
  | true =>
    obtain ⟨ns, given⟩ := giveRound_link (u.setRound (some { x with isOpen := false })) .closed
    exact ⟨_, by simp only [State.sameRound, isOpen, if_true, given]; rfl⟩
  | false =>
    have same : u.setRound (some { x with isOpen := false }) = u := by
      rw [show ({ x with isOpen := false } : Round) = x by rw [← isOpen], ← round]
      rfl
    refine ⟨u.link, ?_⟩
    simp only [State.sameRound, isOpen, Bool.false_eq_true, if_false]
    rw [same]
    rfl

/-! ### ROUND frames and the round id of a STATUS frame -/

section Frames
variable {s u : State} {h : RxHeader} {r : Running}

theorem exec_roundOpenFrame {b : RoundOpenBody} (acc : Accepts s h (fixedForm h .claim 22) false r u) :
    exec (.roundOpenFrame h b) s = .next ((u.onRound b.id (.opened b.collector)).relaying h r (.roundOpen b)) :=
  congrArg Host.Outcome.next (step_of_relayed (b := .roundOpen b) acc)

theorem exec_roundEntryFrame {b : RoundEntryBody} (acc : Accepts s h (fixedForm h .claim 22) false r u) :
    exec (.roundEntryFrame h b) s = .next ((u.onRound b.id (.entry b.collector b.entry)).relaying h r (.roundEntry b)) :=
  congrArg Host.Outcome.next (step_of_relayed (b := .roundEntry b) acc)

theorem exec_roundCloseFrame {b : RoundCloseBody} (acc : Accepts s h (fixedForm h .claim 22) false r u) :
    exec (.roundCloseFrame h b) s = .next ((u.onRound b.id .closed).relaying h r (.roundClose b)) :=
  congrArg Host.Outcome.next (step_of_relayed (b := .roundClose b) acc)

theorem exec_statusFrame {b : StatusBody} (acc : Accepts s h (fixedForm h .record 12) true r u) :
    exec (.statusFrame h b) s = .next (u.onStatus h.origin b).settle :=
  congrArg Host.Outcome.next ((whilePowered_of_power acc.power _).trans (congrArg State.settle (receive_of_accepts acc _)))

/-- R19: the state once the reported values of a STATUS frame have had their effects, before its round id has. -/
def State.reporting (u : State) (origin : Nat) (b : StatusBody) : State :=
  ((u.setNeighbour origin { u.neighbour origin with reported := some (reportedOf b) }).recomputeDistance).reconsiderTariffIf true

theorem onStatus_of_round {b : StatusBody} {id : RoundId} (round : b.round = some id) (origin : Nat) :
    u.onStatus origin b = (u.reporting origin b).onRound id .status := by
  simp only [State.onStatus, round]
  rfl

theorem reporting_frame (u : State) (origin : Nat) (b : StatusBody) :
    ∃ c, SameButReports (u.setChan c) (u.reporting origin b) :=
  ⟨_, (sameBut_recomputeDistance (u.setNeighbour origin { u.neighbour origin with
    reported := some (reportedOf b) })).trans (sameBut_reconsiderTariffIf _ _)⟩

end Frames

/-- Settles O50. -/
theorem roundFramesMerge : Obligations.RoundFramesMerge := by
  refine ⟨fun s u h r b y acc stands round isOpen other => ⟨fun precedes => ?folds, fun follows => ?ignored⟩,
    fun s u h r b acc stands y round closed other => ⟨fun later => ?opensLater, fun notLater => ?opensEarlier⟩,
    fun s u h r b acc stands => ⟨fun later => ?entersLater, fun y round closed other notLater => ?entersEarlier⟩,
    fun s u h r b id acc named stands => ⟨fun later => ?statusLater, fun y round closed notLater => ?statusEarlier⟩,
    foldEntry_folds, fun s u h r b acc stands none => ?opens, fun s u h r b x acc stands round same => ?files,
    fun s u h r b x acc stands round same => ?closes⟩
  case folds =>
    have step := exec_roundEntryFrame (b := b) acc
    rw [onRound_of_open (w := .entry b.collector b.entry) stands round isOpen other nofun, if_pos precedes] at step
    have same := onlyReports_foldRound u y b.id (.entry b.collector b.entry)
    rw [own_of_running acc.running.1] at same
    have ret := same.ret_eq
    refine ⟨_, step, same.round, ?_, same.cash, same.permits, same.box⟩
    rw [relaying_ret, ret]
    rfl
  case ignored =>
    have step := exec_roundEntryFrame (b := b) acc
    rw [onRound_of_open (w := .entry b.collector b.entry) stands round isOpen other nofun, if_neg (by simp [follows])] at step
    exact ⟨_, step, rfl, rfl, rfl⟩
  case opensLater =>
    have step := exec_roundOpenFrame (b := b) acc
    obtain ⟨v, adopted⟩ := adoptRound_eq u b.id (.opened b.collector)
    rw [onRound_of_closed (w := .opened b.collector) stands round closed other nofun, if_pos later, adopted] at step
    exact ⟨_, step, rfl, rfl, rfl, rfl⟩
  case opensEarlier =>
    have step := exec_roundOpenFrame (b := b) acc
    rw [onRound_of_earlier (w := .opened b.collector) stands nofun round closed other notLater] at step
    exact ⟨_, step, rfl, rfl, rfl⟩
  case entersLater =>
    have step := exec_roundEntryFrame (b := b) acc
    obtain ⟨v, adopted⟩ := adoptRound_eq u b.id (.entry b.collector b.entry)
    rw [onRound_of_later (w := .entry b.collector b.entry) stands nofun later, adopted] at step
    exact ⟨_, step, rfl, rfl, rfl, rfl⟩
  case entersEarlier =>
    have step := exec_roundEntryFrame (b := b) acc
    rw [onRound_of_earlier (w := .entry b.collector b.entry) stands nofun round closed other notLater] at step
    exact ⟨_, step, rfl, rfl, rfl⟩
  case statusLater =>
    have step := exec_statusFrame (b := b) acc
    obtain ⟨c, same⟩ := reporting_frame u h.origin b
    obtain ⟨v, adopted⟩ := adoptRound_eq (u.reporting h.origin b) id .status
    have stands : roundExpired id (u.reporting h.origin b).ret.clock.time = false := by rw [same.clock]; exact stands
    have ret := same.ret_eq
    rw [onStatus_of_round named, onRound_of_later (w := .status) stands nofun (by rw [same.round]; exact later),
        adopted] at step
    refine ⟨_, step, rfl, ?_, same.box, same.cash, same.permits⟩
    show (u.reporting h.origin b).ret.lastCollection = _
    rw [ret]
    rfl
  case statusEarlier =>
    have step := exec_statusFrame (b := b) acc
    obtain ⟨c, same⟩ := reporting_frame u h.origin b
    have stands : roundExpired id (u.reporting h.origin b).ret.clock.time = false := by rw [same.clock]; exact stands
    have held : (u.reporting h.origin b).ret.round = some y := same.round.trans round
    have kept : (u.reporting h.origin b).onRound id .status = u.reporting h.origin b := by
      by_cases current : y.id = id
      · rw [onRound_of_same stands held current]
        rfl
      · exact onRound_of_earlier (w := .status) stands nofun held closed (Ne.symm current) notLater
    rw [onStatus_of_round named, kept] at step
    exact ⟨_, step, same.round, same.cash, same.permits⟩
  case opens =>
    have step := exec_roundOpenFrame (b := b) acc
    obtain ⟨v, adopted⟩ := adoptRound_eq u b.id (.opened b.collector)
    rw [onRound_of_none (w := .opened b.collector) stands none nofun, adopted] at step
    exact ⟨_, step, rfl, rfl, rfl, rfl, rfl⟩
  case files =>
    have step := exec_roundEntryFrame (b := b) acc
    rw [onRound_of_same stands round same] at step
    exact ⟨_, step, rfl, rfl, rfl, rfl⟩
  case closes =>
    have step := exec_roundCloseFrame (b := b) acc
    obtain ⟨v, closed⟩ := sameRound_closed round
    rw [onRound_of_same stands round same, closed] at step
    exact ⟨_, step, rfl, rfl, rfl, rfl⟩

end Sys2Proof.Machine

/-! PROOF. Frames that are not accepted, and the de-duplication windows: O44. -/

namespace Sys2Proof.Machine

/-! ### Arrival -/

/-- R2, R11: every frame command passes through the link controller, with its header and the form of its kind. -/
theorem exec_of_arrival {i : Instr} {h : RxHeader} {f : FrameForm} {isStatus : Bool}
    (arrival : arrivalOf i = some (h, f, isStatus)) :
    ∃ owner, ∀ s, exec i s = .next (s.whilePowered fun t => t.receive h f isStatus owner) := by
  unfold arrivalOf at arrival
  split at arrival <;> cases arrival
  case h_2 rs =>
    have cls : decide (h.cls = QueuedBody.cls (.stay rs (decide (h.cls = .bulk)))) =
        decide (h.cls = .record ∨ h.cls = .bulk) := by
      cases h.cls <;> rfl
    refine ⟨fun r t => (t.mergeRecords rs).relayFrame h r.config.hopLimit (.stay rs (decide (h.cls = .bulk))), fun s => ?_⟩
    rw [← cls]
    rfl
  all_goals exact ⟨_, fun _ => rfl⟩

section Rejected
variable {s : State} {h : RxHeader} {f : FrameForm} {isStatus : Bool} {r : Running}

/-- R11: what an accepted header is. -/
theorem headerOk_iff {zone : Nat} : headerOk h f zone = true ↔ (checkRight h.octets = true ∧ h.codesAssigned = true ∧
    f.classOk = true ∧ f.countOk = true) ∧ 1 ≤ h.zone ∧ h.zone ≤ 4095 ∧ 1 ≤ h.sender ∧ h.sender ≤ 30 ∧ 1 ≤ h.origin ∧
    h.origin ≤ 30 ∧ h.hop ≤ 3 ∧ h.seq < wordSpan ∧ h.epoch < byteSpan ∧ h.time ≤ zoneTimeMax ∧
    (h.hop = 0 ↔ h.origin = h.sender) ∧ h.bodyLength = f.length ∧ h.bodyLength ≤ 193 ∧ h.zone = zone := by
  simp [headerOk, RxHeader.checkAgrees, and_assoc]

theorem receive_of_rejected (rejected : ∀ r, s.link.running = some r → headerOk h f r.config.zone = false)
    (owner : Running → State → State) : s.receive h f isStatus owner = s := by
  unfold State.receive
  split
  · rfl
  next r listening =>
    simp [rejected r (running_of_listening listening).1]

theorem power_of_listening (listening : s.listening = some r) : s.supply.power = true := by
  unfold State.listening at listening
  split at listening
  next up => exact up.1
  · cases listening

theorem own_of_listening (listening : s.listening = some r) : s.own = r.number :=
  own_of_running (running_of_listening listening).1

theorem receive_of_ownSender (listening : s.listening = some r) (header : headerOk h f r.config.zone = true)
    (own : h.sender = r.number) (owner : Running → State → State) :
    s.receive h f isStatus owner = s.duplicateStation h r.config.statusPeriod := by
  simp [State.receive, listening, header, own]

/-- R12, R13: an echo, and a duplicate, go no further than the hearing. -/
theorem receive_of_heard (listening : s.listening = some r) (header : headerOk h f r.config.zone = true)
    (other : h.sender ≠ r.number)
    (past : h.origin = r.number ∨ (s.hear h r.config.statusPeriod).recordSeq h isStatus = none)
    (owner : Running → State → State) : s.receive h f isStatus owner = s.hear h r.config.statusPeriod := by
  have accepted : s.accept h r isStatus owner = s.hear h r.config.statusPeriod := by
    unfold State.accept
    dsimp only
    split
    · rfl
    next foreign => rw [past.resolve_left foreign]
  simp [State.receive, listening, header, other, accepted]

end Rejected

/-! ### The neighbour table -/

section Neighbours
variable {s : State} {n m : Nat} {e : Neighbour}

theorem neighbour_setNeighbour_same (size : s.chan.neighbours.length = 30) (first : 1 ≤ n) (last : n ≤ 30) :
    (s.setNeighbour n e).neighbour n = e := by
  have inside : n - 1 < s.chan.neighbours.length := by omega
  simp [State.neighbour, List.getD_eq_getElem?_getD, inside]

theorem neighbour_setNeighbour_other (first : 1 ≤ n) (first' : 1 ≤ m) (other : n ≠ m) :
    (s.setNeighbour n e).neighbour m = s.neighbour m := by
  have apart : n - 1 ≠ m - 1 := by omega
  simp [State.neighbour, List.getD_eq_getElem?_getD, apart]

theorem SameButReports.neighbours {s t : State} (same : SameButReports s t) : t.chan.neighbours = s.chan.neighbours := by
  obtain ⟨q, chan⟩ := same.chan
  rw [chan]

theorem hear_neighbours (s : State) (h : RxHeader) (period : Nat) :
    (s.hear h period).chan.neighbours = (s.marked h period).chan.neighbours :=
  (sameBut_neighboursChanged (s.marked h period)).neighbours

theorem hear_neighbour (s : State) (h : RxHeader) (period n : Nat) :
    (s.hear h period).neighbour n = (s.marked h period).neighbour n := by
  rw [State.neighbour, hear_neighbours]
  rfl

/-- R12, R21: the sender's entry after a hearing. -/
theorem hear_sender {h : RxHeader} (size : s.chan.neighbours.length = 30) (first : 1 ≤ h.sender) (last : h.sender ≤ 30)
    (origin : 1 ≤ h.origin) (period : Nat) :
    (s.hear h period).neighbour h.sender = (s.neighbour h.sender).heardAsSender s.ret.clock.time period := by
  have marked : (s.setNeighbour h.sender ((s.neighbour h.sender).heardAsSender s.now period)).neighbour h.sender =
      (s.neighbour h.sender).heardAsSender s.now period := neighbour_setNeighbour_same size first last
  rw [hear_neighbour, State.marked]
  split
  · exact marked
  next other => exact (neighbour_setNeighbour_other origin first fun same => other (.inl same)).trans marked

/-- R12: a hearing leaves claims, cash, clock and stay records. -/
theorem hear_leaves (s : State) (h : RxHeader) (period : Nat) :
    (s.hear h period).permits = s.permits ∧ (s.hear h period).cash = s.cash ∧
      (s.hear h period).ret.clock = s.ret.clock ∧
      (s.hear h period).stay.entries.map StayEntry.record = s.stay.entries.map StayEntry.record := by
  obtain ⟨ns, d, same⟩ := hear_frame s h period
  obtain ⟨q, ret⟩ := same.ret
  exact ⟨same.permits, same.cash, (congrArg Retained.clock ret : _), same.records⟩

end Neighbours

/-! ### De-duplication windows (R13) -/

section Windows
variable {w : SeqWindow} {q d j : Nat}

theorem seen_mark (first : 1 ≤ d) (first' : 1 ≤ j) (last : j ≤ 32) :
    (w.mark d).seen j = true ↔ j = d ∨ w.seen j = true := by
  have inside : j - 1 < 32 := by omega
  simp only [SeqWindow.mark, SeqWindow.seen, BitVec.getLsbD_or, BitVec.getLsbD_shiftLeft, BitVec.getLsbD_one, Bool.or_eq_true,
    Bool.and_eq_true, Bool.not_eq_true', decide_eq_true_eq, decide_eq_false_iff_not]
  constructor
  · rintro (held | ⟨⟨-, reached⟩, -, same⟩)
    · exact .inr held
    · exact .inl (by omega)
  · rintro (rfl | held)
    · exact .inr ⟨⟨inside, by omega⟩, by omega, by omega⟩
    · exact .inl held

theorem seen_forward (first : 1 ≤ d) (first' : 1 ≤ j) (last : j ≤ 32) (ahead : seqBehind q w.high = d) :
    (w.forward q).seen j = true ↔ j = d ∨ (d < j ∧ w.seen (j - d) = true) := by
  have inside : j - 1 < 32 := by omega
  have place : j - 1 - d = j - d - 1 := by omega
  simp only [SeqWindow.forward, ahead, SeqWindow.seen, BitVec.getLsbD_or, BitVec.getLsbD_shiftLeft, BitVec.getLsbD_one,
    Bool.or_eq_true, Bool.and_eq_true, Bool.not_eq_true', decide_eq_true_eq, decide_eq_false_iff_not, place]
  constructor
  · rintro (⟨⟨-, reached⟩, held⟩ | ⟨⟨-, reached⟩, -, same⟩)
    · exact .inr ⟨by omega, held⟩
    · exact .inl (by omega)
  · rintro (rfl | ⟨behind, held⟩)
    · exact .inr ⟨⟨inside, by omega⟩, by omega, by omega⟩
    · exact .inl ⟨⟨inside, by omega⟩, held⟩

/-- R13: a sequence up to 32767 ahead of the highest is newer. -/
theorem newer_of_ahead (high : w.high < 65536) (ahead : (q + 65536 - w.high) % 65536 = d) (first : 1 ≤ d) (last : d ≤ 32767) :
    w.newer q = true ∧ seqBehind q w.high = d := by
  have behind : seqBehind q w.high = d := by
    simp only [seqBehind, wordSpan]
    omega
  have newer : seqNewer q w.high = true := by
    simp only [seqNewer, wordSpan, decide_eq_true_eq]
    omega
  exact ⟨by simp [SeqWindow.newer, newer], behind⟩

/-- R13: one at the highest, or up to 32767 behind it, is not. -/
theorem not_newer_of_behind (high : w.high < 65536) (small : q < 65536) (behind : (w.high + 65536 - q) % 65536 ≤ 32767) :
    w.newer q = false ∧ seqBehind w.high q = (w.high + 65536 - q) % 65536 := by
  have older : seqNewer q w.high = false := by
    simp only [seqNewer, wordSpan, decide_eq_false_iff_not]
    omega
  have apart : ¬ seqBehind q w.high = 32768 := by
    simp only [seqBehind, wordSpan]
    omega
  have distance : seqBehind w.high q = (w.high + 65536 - q) % 65536 := by
    simp only [seqBehind, wordSpan]
    omega
  exact ⟨by simp [SeqWindow.newer, older, apart], distance⟩

end Windows

/-- R13, R14: the window rules, by the distance of a sequence from the highest. -/
theorem window_rules (w : SeqWindow) (q : Nat) (high : w.high < 65536) (small : q < 65536) :
    (∀ d, 1 ≤ d → d ≤ 32767 → (q + 65536 - w.high) % 65536 = d →
      ∃ x, dedupe (some w) q = some x ∧ (∀ b, follow (some w) q b = x) ∧ x.high = q ∧
        ∀ j, 1 ≤ j → j ≤ 32 → (x.seen j = true ↔ j = d ∨ (d < j ∧ w.seen (j - d) = true))) ∧
    (q = w.high → dedupe (some w) q = none ∧ ∀ b, follow (some w) q b = w) ∧
    (∀ d, 1 ≤ d → d ≤ 32 → (w.high + 65536 - q) % 65536 = d →
      (w.seen d = true → dedupe (some w) q = none) ∧
      ∃ x, (w.seen d = false → dedupe (some w) q = some x) ∧ (∀ b, follow (some w) q b = x) ∧ x.high = w.high ∧
        ∀ j, 1 ≤ j → j ≤ 32 → (x.seen j = true ↔ j = d ∨ w.seen j = true)) ∧
    (32 < (w.high + 65536 - q) % 65536 → (w.high + 65536 - q) % 65536 ≤ 32767 →
      dedupe (some w) q = none ∧ follow (some w) q true = SeqWindow.mk q 0 ∧ follow (some w) q false = w) := by
  refine ⟨fun d first last ahead => ?newer, fun same => ?equal, fun d first last behind => ?marked, fun far near => ?old⟩
  case newer =>
    obtain ⟨newer, distance⟩ := newer_of_ahead high ahead first last
    exact ⟨w.forward q, by simp [dedupe, newer], fun b => by simp [follow, newer], rfl,
      fun j first' last' => seen_forward first first' last' distance⟩
  case equal =>
    obtain ⟨newer, distance⟩ := not_newer_of_behind high small (by omega)
    have zero : seqBehind w.high q = 0 := by omega
    exact ⟨by simp [dedupe, newer, zero], fun b => by simp [follow, newer, zero]⟩
  case marked =>
    obtain ⟨newer, distance⟩ := not_newer_of_behind high small (by omega)
    have away : ¬ d = 0 := by omega
    rw [behind] at distance
    exact ⟨fun seen => by simp [dedupe, newer, distance, seen], w.mark d,
      fun unseen => by simp [dedupe, newer, distance, away, last, unseen],
      fun b => by simp [follow, newer, distance, away, last], rfl, fun j first' last' => seen_mark first first' last'⟩
  case old =>
    obtain ⟨newer, distance⟩ := not_newer_of_behind high small near
    have away : ¬ seqBehind w.high q = 0 := by omega
    have beyond : ¬ seqBehind w.high q ≤ 32 := by omega
    exact ⟨by simp [dedupe, newer, away, beyond], by simp [follow, newer, away, beyond]; rfl,
      by simp [follow, newer, away, beyond]⟩

/-- Settles O44. -/
theorem unacceptedFramesDiscarded : Obligations.UnacceptedFramesDiscarded := by
  refine ⟨fun i h f isStatus s arrival wrong full => ?rejected,
    fun i h f isStatus s r arrival listening table header own => ?duplicate,
    fun i h f isStatus s r arrival listening header other past => ?heard, fun q isStatus => ⟨rfl, rfl⟩, window_rules⟩
  case rejected =>
    obtain ⟨owner, step⟩ := exec_of_arrival arrival
    have rejected (r : Running) (running : s.link.running = some r) : headerOk h f r.config.zone = false := by
      rw [Bool.eq_false_iff, Ne, headerOk_iff]
      rintro ⟨⟨check, codes, cls, count⟩, -, -, sender, sender', origin, origin', hops, -, -, -, hop, length, -, zone⟩
      rcases wrong with bad | bad | bad | bad | bad | bad | bad | bad | bad | bad | bad | bad | bad
      · exact absurd check (by simp [bad])
      · exact absurd codes (by simp [bad])
      · exact absurd cls (by simp [bad])
      · exact absurd count (by simp [bad])
      · exact bad length
      · omega
      · omega
      · omega
      · omega
      · omega
      · exact bad.2 (hop.1 bad.1)
      · exact bad.1 (hop.2 bad.2)
      · exact bad r running zone
    have settled : s.settle = s := settle_self (full.imp_right fun ⟨waiting, notices⟩ =>
      ⟨waiting, by simp [MachineLink.nextNotice, notices]⟩)
    rw [step, State.whilePowered, receive_of_rejected rejected, settled, ite_self]
  case duplicate =>
    obtain ⟨owner, step⟩ := exec_of_arrival arrival
    have raised := raised_raise table .duplicateStation h.origin
    have same := sameBut_raise s .duplicateStation h.origin
    obtain ⟨q, ret⟩ := same.ret
    have small : h.origin % 65536 = h.origin := Nat.mod_eq_of_lt (by have := (headerOk_iff.1 header).2; omega)
    refine ⟨(s.duplicateStation h r.config.statusPeriod).settle, ?_, raised.active rfl, raised.detail.trans small, rfl,
      same.neighbours, (congrArg Retained.clock ret : _), same.permits, same.cash⟩
    rw [step, whilePowered_of_power (power_of_listening listening), receive_of_ownSender listening header own]
  case heard =>
    obtain ⟨owner, step⟩ := exec_of_arrival arrival
    have inRange := (headerOk_iff.1 header).2
    refine ⟨?_, fun size => hear_sender size (by omega) (by omega) (by omega) _, hear_leaves s h _⟩
    rw [step, whilePowered_of_power (power_of_listening listening), receive_of_heard listening header other past]

end Sys2Proof.Machine

/-! PROOF. The conditions that count neighbours, CLOCK DISAGREE (R34) and TARIFF BEHIND (R54), judged through an arrival. -/

namespace Sys2Proof.Machine

/-! ### The newest version reported (R54) -/

/-- R54: an entry is FRESH and reports the tariff id in the version, newer than the active one. -/
def Neighbour.ahead (e : Neighbour) (name : TariffName) (v : Nat) : Prop :=
  e.state = .fresh ∧ ∃ rep, e.reported = some rep ∧ rep.tariff = some { id := name.id, version := v } ∧ name.version < v

/-- R54: one entry's part in the newest version reported. -/
def newerOf (name : TariffName) (acc : Option Nat) (e : Neighbour) : Option Nat :=
  match e.state, e.reported with
  | .fresh, some r =>
    match r.tariff with
    | some v => if v.id = name.id ∧ name.version < v.version ∧ acc.getD 0 < v.version then some v.version else acc
    | none => acc
  | _, _ => acc

theorem newestReported_eq {s : State} {x : TariffTable} (active : s.ret.active = some x) :
    s.newestReported = s.chan.neighbours.foldl (newerOf x.name) none := by
  simp only [State.newestReported, active]
  rfl

theorem behindBy_iff {s : State} {v : Nat} : s.behindBy v ↔
    ∃ x, s.ret.active = some x ∧ ∃ e ∈ s.chan.neighbours, e.ahead x.name v := by
  constructor
  · rintro ⟨x, e, rep, active, mem, fresh, reported, tariff, newer⟩
    exact ⟨x, active, e, mem, fresh, rep, reported, tariff, newer⟩
  · rintro ⟨x, active, e, mem, fresh, rep, reported, tariff, newer⟩
    exact ⟨x, e, rep, active, mem, fresh, reported, tariff, newer⟩

/-- R54: an entry ahead takes its version where it is above the newest yet; any other leaves the newest. -/
theorem newerOf_cases (name : TariffName) (acc : Option Nat) (e : Neighbour) :
    (∃ v, e.ahead name v ∧ acc.getD 0 < v ∧ newerOf name acc e = some v) ∨
      ((∀ v, e.ahead name v → v ≤ acc.getD 0) ∧ newerOf name acc e = acc) := by
  unfold newerOf
  split
  next r fresh reported =>
    split
    next v tariff =>
      split
      next newer =>
        obtain ⟨id, version, above⟩ := newer
        exact .inl ⟨v.version, ⟨fresh, r, reported, by rw [tariff, ← id], version⟩, above, rfl⟩
      next stays =>
        refine .inr ⟨fun w ahead => ?_, rfl⟩
        obtain ⟨-, rep, same, named, version⟩ := ahead
        obtain rfl : r = rep := Option.some.inj (reported.symm.trans same)
        obtain rfl : v = { id := name.id, version := w } := Option.some.inj (tariff.symm.trans named)
        exact Nat.le_of_not_lt fun above => stays ⟨rfl, version, above⟩
    next none =>
      refine .inr ⟨fun w ahead => ?_, rfl⟩
      obtain ⟨-, rep, same, named, -⟩ := ahead
      obtain rfl : r = rep := Option.some.inj (reported.symm.trans same)
      exact absurd (none.symm.trans named) (by simp)
  next other =>
    refine .inr ⟨fun w ahead => ?_, rfl⟩
    obtain ⟨fresh, rep, reported, -⟩ := ahead
    exact absurd reported (other rep fresh)

/-- R54: the fold ends at the newest version of the entries ahead, or where it began. -/
theorem foldl_newerOf (name : TariffName) (ns : List Neighbour) : ∀ acc : Option Nat,
    (ns.foldl (newerOf name) acc = acc ∨ ∃ v, (∃ e ∈ ns, e.ahead name v) ∧ ns.foldl (newerOf name) acc = some v) ∧
      acc.getD 0 ≤ (ns.foldl (newerOf name) acc).getD 0 ∧
      ∀ e ∈ ns, ∀ v, e.ahead name v → v ≤ (ns.foldl (newerOf name) acc).getD 0 := by
  induction ns with
  | nil => exact fun acc => ⟨.inl rfl, le_rfl, fun _ mem => absurd mem List.not_mem_nil⟩
  | cons e es ih =>
    intro acc
    obtain ⟨ends, grows, bounds⟩ := ih (newerOf name acc e)
    rw [List.foldl_cons]
    have tail (ends' : ∃ v, (∃ e ∈ es, e.ahead name v) ∧ es.foldl (newerOf name) (newerOf name acc e) = some v) :
        ∃ v, (∃ x ∈ e :: es, x.ahead name v) ∧ es.foldl (newerOf name) (newerOf name acc e) = some v := by
      obtain ⟨v, ⟨x, mem, ahead⟩, eq⟩ := ends'
      exact ⟨v, ⟨x, List.mem_cons_of_mem _ mem, ahead⟩, eq⟩
    obtain ⟨v, ahead, above, taken⟩ | ⟨below, same⟩ := newerOf_cases name acc e
    · have reached : v ≤ (es.foldl (newerOf name) (newerOf name acc e)).getD 0 := by
        rw [taken, Option.getD_some] at grows
        rwa [taken]
      refine ⟨.inr (ends.elim (fun eq => ⟨v, ⟨e, List.mem_cons_self, ahead⟩, eq.trans taken⟩) tail),
        (Nat.le_of_lt above).trans reached, fun x mem y ahead' => ?_⟩
      rcases List.mem_cons.1 mem with rfl | mem
      · obtain ⟨-, rep, reported, tariff, -⟩ := ahead
        obtain ⟨-, rep', reported', tariff', -⟩ := ahead'
        obtain rfl : rep = rep' := Option.some.inj (reported.symm.trans reported')
        have versions : v = y := congrArg TariffName.version (Option.some.inj (tariff.symm.trans tariff'))
        exact versions ▸ reached
      · exact bounds x mem y ahead'
    · have reached : acc.getD 0 ≤ (es.foldl (newerOf name) (newerOf name acc e)).getD 0 := by
        rwa [same] at grows ⊢
      refine ⟨ends.imp (fun eq => eq.trans same) tail, reached, fun x mem y ahead' => ?_⟩
      rcases List.mem_cons.1 mem with rfl | mem
      · exact (below y ahead').trans reached
      · exact bounds x mem y ahead'

/-- R54: there is a newest version reported where some version is, and it is the greatest. -/
theorem newestReported_of_some {s : State} {v : Nat} (newest : s.newestReported = some v) :
    s.behindBy v ∧ ∀ y, s.behindBy y → y ≤ v := by
  cases active : s.ret.active with
  | none => simp [State.newestReported, active] at newest
  | some x =>
    rw [newestReported_eq active] at newest
    obtain ⟨ends, -, bounds⟩ := foldl_newerOf x.name s.chan.neighbours none
    rw [newest] at ends bounds
    obtain ⟨w, ⟨e, mem, ahead⟩, eq⟩ := ends.resolve_left nofun
    obtain rfl : v = w := Option.some.inj eq
    refine ⟨behindBy_iff.2 ⟨x, active, e, mem, ahead⟩, fun y behind => ?_⟩
    obtain ⟨x', active', e', mem', ahead'⟩ := behindBy_iff.1 behind
    obtain rfl : x = x' := Option.some.inj (active.symm.trans active')
    exact bounds e' mem' y ahead'

theorem newestReported_of_none {s : State} (newest : s.newestReported = none) (v : Nat) : ¬ s.behindBy v := by
  intro behind
  obtain ⟨x, active, e, mem, ahead⟩ := behindBy_iff.1 behind
  obtain ⟨-, -, bounds⟩ := foldl_newerOf x.name s.chan.neighbours none
  rw [← newestReported_eq active, newest] at bounds
  have zero : v ≤ 0 := bounds e mem v ahead
  obtain ⟨-, -, -, -, newer⟩ := ahead
  omega

/-! ### The conditions judged -/

/-- R34: CLOCK DISAGREE is active exactly while three or more FRESH entries are disputed. -/
def State.ClocksJudged (s : State) : Prop := s.faultActive .clockDisagree = true ↔ 3 ≤ s.disputedFresh

/-- R54: TARIFF BEHIND is active exactly while a FRESH entry reports a newer version. -/
def State.TariffJudged (s : State) : Prop := s.faultActive .tariffBehind = true ↔ ∃ v, s.behindBy v

/-- The entry of a kind, but for its reports, is the same in both states. -/
def SameEntry (k : FaultKind) (s t : State) : Prop := (t.faultEntry k).core = (s.faultEntry k).core

theorem SameEntry.active {k : FaultKind} {s t : State} (same : SameEntry k s t) : t.faultActive k = s.faultActive k :=
  (congrArg FaultEntry.active same : _)

section Judged
variable {s t : State}

theorem State.ClocksJudged.congr (judged : s.ClocksJudged) (same : SameEntry .clockDisagree s t)
    (count : t.disputedFresh = s.disputedFresh) : t.ClocksJudged := by
  rw [State.ClocksJudged, same.active, count]
  exact judged

theorem behindBy_congr (active : t.ret.active = s.ret.active) (neighbours : t.chan.neighbours = s.chan.neighbours) (v : Nat) :
    t.behindBy v ↔ s.behindBy v := by rw [State.behindBy, active, neighbours]; rfl

theorem State.TariffJudged.congr (judged : s.TariffJudged) (same : SameEntry .tariffBehind s t)
    (behind : ∀ v, t.behindBy v ↔ s.behindBy v) : t.TariffJudged := by
  rw [State.TariffJudged, same.active]
  exact judged.trans (exists_congr fun v => (behind v).symm)

theorem SameButReports.active_eq (same : SameButReports s t) : t.ret.active = s.ret.active := by rw [same.ret_eq]

theorem SameButReports.behindBy (same : SameButReports s t) (v : Nat) : t.behindBy v ↔ s.behindBy v :=
  behindBy_congr same.active_eq same.neighbours v

theorem SameButReports.disputedFresh (same : SameButReports s t) : t.disputedFresh = s.disputedFresh := by
  rw [State.disputedFresh, same.neighbours]
  rfl

end Judged

section Reconsidered
variable (s : State)

theorem reconsiderClocks_tableLength : s.reconsiderClocks.faults.table.length = s.faults.table.length := by
  unfold State.reconsiderClocks
  split
  · split
    · rfl
    · exact raiseIf_tableLength s true _ _
  · exact clearIf_tableLength s true _

theorem reconsiderTariffIf_tableLength (loud : Bool) :
    (s.reconsiderTariffIf loud).faults.table.length = s.faults.table.length := by
  unfold State.reconsiderTariffIf
  split
  · exact clearIf_tableLength s loud _
  · split
    · rfl
    · exact raiseIf_tableLength s loud _ _

theorem reconsiderClocks_entry_other {k : FaultKind} (h : k ≠ .clockDisagree) : SameEntry k s s.reconsiderClocks := by
  unfold State.reconsiderClocks
  split
  · split
    · rfl
    · exact raiseIf_entry_other h s true _
  · exact clearIf_entry_other h s true

/-- R34: a third disputed FRESH entry raises CLOCK DISAGREE with their count. -/
theorem reconsiderClocks_raises (three : 3 ≤ s.disputedFresh) (inactive : s.faultActive .clockDisagree = false)
    (table : s.faults.table.length = 22) : Raised s s.reconsiderClocks .clockDisagree s.disputedFresh := by
  simp only [State.reconsiderClocks, three, inactive, if_true, Bool.false_eq_true, if_false]
  exact raised_raise table _ _

/-- R34: while the condition is as the count has it, nothing of it changes. -/
theorem reconsiderClocks_stays (judged : s.ClocksJudged) : s.reconsiderClocks = s := by
  unfold State.reconsiderClocks
  split
  next three => rw [if_pos (judged.2 three)]
  next fewer => exact clearIf_of_inactive (by rw [Bool.eq_false_iff]; exact fun active => fewer (judged.1 active)) true

theorem clocksJudged_reconsiderClocks (table : s.faults.table.length = 22) : s.reconsiderClocks.ClocksJudged := by
  rw [State.ClocksJudged, (sameBut_reconsiderClocks s).disputedFresh]
  by_cases three : 3 ≤ s.disputedFresh
  · refine iff_of_true ?_ three
    cases active : s.faultActive .clockDisagree with
    | true =>
      simp only [State.reconsiderClocks, three, active, if_true]
    | false => exact (reconsiderClocks_raises s three active table).active rfl
  · refine iff_of_false ?_ three
    simp only [State.reconsiderClocks, three, if_false]
    rw [State.clear, clearIf_inactive]
    simp

/-- R54: a newest version above the detail, or not yet told of, raises TARIFF BEHIND. -/
theorem reconsiderTariffIf_raises {v : Nat} (newest : s.newestReported = some v) (table : s.faults.table.length = 22)
    (above : s.faultActive .tariffBehind = false ∨ (s.faultEntry .tariffBehind).detail < v) (loud : Bool) :
    Raised s (s.reconsiderTariffIf loud) .tariffBehind v := by
  have goes : ¬ (s.faultActive .tariffBehind = true ∧ v ≤ (s.faultEntry .tariffBehind).detail) := by
    rintro ⟨active, below⟩
    rcases above with inactive | above
    · exact absurd (active.symm.trans inactive) (by simp)
    · omega
  simp only [State.reconsiderTariffIf, newest, if_neg goes]
  exact raised_raiseIf (table ▸ faultCode_lt _) loud v

theorem reconsiderTariffIf_stays {v : Nat} (newest : s.newestReported = some v) (active : s.faultActive .tariffBehind = true)
    (below : v ≤ (s.faultEntry .tariffBehind).detail) (loud : Bool) : s.reconsiderTariffIf loud = s := by
  simp only [State.reconsiderTariffIf, newest, if_pos (And.intro active below)]

theorem tariffJudged_reconsiderTariffIf (table : s.faults.table.length = 22) (loud : Bool) :
    (s.reconsiderTariffIf loud).TariffJudged := by
  have behind := (sameBut_reconsiderTariffIf s loud).behindBy
  refine .trans ?_ (exists_congr fun v => (behind v).symm)
  cases newest : s.newestReported with
  | none =>
    refine iff_of_false ?_ fun ⟨v, h⟩ => newestReported_of_none newest v h
    simp only [State.reconsiderTariffIf, newest]
    rw [clearIf_inactive]
    simp
  | some v =>
    refine iff_of_true ?_ ⟨v, (newestReported_of_some newest).1⟩
    by_cases stays : s.faultActive .tariffBehind = true ∧ v ≤ (s.faultEntry .tariffBehind).detail
    · rw [reconsiderTariffIf_stays s newest stays.1 stays.2]
      exact stays.1
    · refine (reconsiderTariffIf_raises s newest table ?_ loud).active rfl
      by_contra neither
      simp only [not_or, Bool.not_eq_false, Nat.not_lt] at neither
      exact stays neither

end Reconsidered

/-- R22: the distance recomputed, with the deferred reports it frees. -/
theorem onlyReports_recomputeDistance (s : State) :
    OnlyReports (s.setChan { s.chan with distance := s.distanceNow }) s.recomputeDistance := by
  unfold State.recomputeDistance
  dsimp only
  split
  · exact onlyReports_offerDeferred _
  · exact .refl _

/-! ### A hearing and a delivery -/

section Changed
variable (s : State)

theorem neighboursChanged_tableLength : s.neighboursChanged.faults.table.length = s.faults.table.length :=
  (reconsiderTariffIf_tableLength _ true).trans
    ((reconsiderClocks_tableLength _).trans (onlyReports_recomputeDistance s).tableLength)

/-- R34, R54: after a change of entries both conditions are judged. -/
theorem judged_neighboursChanged (table : s.faults.table.length = 22) :
    s.neighboursChanged.ClocksJudged ∧ s.neighboursChanged.TariffJudged := by
  have table' : s.recomputeDistance.faults.table.length = 22 := (onlyReports_recomputeDistance s).tableLength.trans table
  exact ⟨(clocksJudged_reconsiderClocks _ table').congr (reconsiderTariffIf_entry_other _ true nofun)
      (sameBut_reconsiderTariffIf _ true).disputedFresh,
    tariffJudged_reconsiderTariffIf _ ((reconsiderClocks_tableLength _).trans table') true⟩

/-- R34: a change of entries that leaves the condition as the count has it leaves its entry. -/
theorem neighboursChanged_clocks (judged : s.ClocksJudged) : SameEntry .clockDisagree s s.neighboursChanged := by
  have distance := onlyReports_recomputeDistance s
  have judged' : s.recomputeDistance.ClocksJudged :=
    judged.congr (distance.entry .clockDisagree) distance.disputedFresh
  refine (reconsiderTariffIf_entry_other _ true (k := .clockDisagree) nofun).trans ?_
  rw [reconsiderClocks_stays _ judged']
  exact distance.entry .clockDisagree

theorem activateDue_tableLength (loud : Bool) : (s.activateDue loud).faults.table.length = s.faults.table.length := by
  obtain ⟨x, awaiting, due⟩ | early := due_or_not s.ret
  · rw [activateDue_of_due awaiting due]
    refine (reconsiderTariffIf_tableLength _ loud).trans ((clearIf_tableLength _ loud _).trans ?_)
    exact (onlyReports_give _ _).tableLength
  · rw [activateDue_of_not_due early]

theorem deliver_tableLength (forward : Bool) : (s.deliver forward).faults.table.length = s.faults.table.length := by
  obtain ⟨es, entries⟩ := retireOn_frame (s.activateDue true) forward
  refine (onlyReports_changeDay (((s.activateDue true).retireOn forward).expireRound)).tableLength.trans
    ((onlyReports_expireRound ((s.activateDue true).retireOn forward)).tableLength.trans ?_)
  rw [entries]
  exact activateDue_tableLength s true

theorem deliver_neighbours (forward : Bool) : (s.deliver forward).chan.neighbours = s.chan.neighbours := by
  obtain ⟨q, chan⟩ := (deliver_frame s forward).chan
  rw [chan]

theorem deliver_disputedFresh (forward : Bool) : (s.deliver forward).disputedFresh = s.disputedFresh := by
  rw [State.disputedFresh, deliver_neighbours]
  rfl

theorem clocksJudged_deliver (judged : s.ClocksJudged) (forward : Bool) : (s.deliver forward).ClocksJudged :=
  judged.congr (deliver_entry_other s forward nofun nofun) (deliver_disputedFresh s forward)

/-- R51, R54: an activation has TARIFF BEHIND judged anew. -/
theorem tariffJudged_deliver (table : s.faults.table.length = 22) (judged : s.TariffJudged) (forward : Bool) :
    (s.deliver forward).TariffJudged := by
  have after : (s.activateDue true).TariffJudged := by
    obtain ⟨x, awaiting, due⟩ | early := due_or_not s.ret
    · rw [activateDue_of_due awaiting due]
      refine tariffJudged_reconsiderTariffIf _ ((clearIf_tableLength _ true _).trans ?_) true
      exact (onlyReports_give _ _).tableLength.trans table
    · rwa [activateDue_of_not_due early]
  refine after.congr (deliver_entry_eq s forward .tariffBehind) (behindBy_congr ?_ ?_)
  · refine (deliver_tariff s forward).1.trans ?_
    exact (sameBut_activateDue s true).active_eq.symm
  · refine (deliver_neighbours s forward).trans ?_
    exact (sameBut_activateDue s true).neighbours.symm

end Changed

end Sys2Proof.Machine

/-! PROOF. The merging of time from frames and the record of a STATUS frame: O45. -/

namespace Sys2Proof.Machine

/-! ### What the conditions read of an entry -/

/-- R34: what the count of disputes reads of an entry. -/
def Neighbour.dispute (e : Neighbour) : Bool := e.disputed && decide (e.state = .fresh)

/-- R54: an entry but for what the newest version reported does not read. -/
def Neighbour.reporting (e : Neighbour) : Neighbour := { e with window := none, disputed := false }

section Read
variable {s t : State} {n : Nat} {e : Neighbour}

/-- An entry replaced by one that reads the same leaves what is read of the table. -/
theorem map_setNeighbour {α : Type} {f : Neighbour → α} (same : f e = f (s.neighbour n)) :
    (s.setNeighbour n e).chan.neighbours.map f = s.chan.neighbours.map f := by
  rw [setNeighbour_chan, List.map_set, same]
  refine List.ext_getElem (by simp) fun i inside _ => ?_
  rw [List.getElem_set]
  split
  next here =>
    subst here
    rw [List.getElem_map, State.neighbour, List.getD_eq_getElem]
  · rfl

theorem disputedFresh_of_dispute (same : t.chan.neighbours.map Neighbour.dispute = s.chan.neighbours.map Neighbour.dispute) :
    t.disputedFresh = s.disputedFresh := by
  have count (u : State) : u.disputedFresh = (u.chan.neighbours.map Neighbour.dispute).countP id := by
    rw [List.countP_map]
    rfl
  rw [count, count, same]

theorem behindBy_of_reporting (active : t.ret.active = s.ret.active)
    (same : t.chan.neighbours.map Neighbour.reporting = s.chan.neighbours.map Neighbour.reporting) (v : Nat) :
    t.behindBy v ↔ s.behindBy v := by
  have read (u : State) : u.behindBy v ↔ ∃ x, u.ret.active = some x ∧
      ∃ e ∈ u.chan.neighbours.map Neighbour.reporting, e.ahead x.name v := by
    refine behindBy_iff.trans (exists_congr fun x => and_congr_right fun _ => ⟨?_, ?_⟩)
    · exact fun ⟨e, mem, ahead⟩ => ⟨_, List.mem_map_of_mem mem, ahead⟩
    · rintro ⟨_, mapped, ahead⟩
      obtain ⟨e, mem, rfl⟩ := List.mem_map.1 mapped
      exact ⟨e, mem, ahead⟩
  rw [read, read, active, same]

/-- R34: one entry replaced moves the count of disputes by one at most. -/
theorem disputedFresh_setNeighbour_le : (s.setNeighbour n e).disputedFresh ≤ s.disputedFresh + 1 := by
  unfold State.disputedFresh
  rw [setNeighbour_chan]
  by_cases inside : n - 1 < s.chan.neighbours.length
  · rw [List.countP_set inside]
    split <;> split <;> omega
  · rw [List.set_eq_of_length_le (by omega)]
    exact Nat.le_succ _

theorem setNeighbour_size : (s.setNeighbour n e).chan.neighbours.length = s.chan.neighbours.length := by simp

end Read

/-! ### A hearing -/

section Heard
variable (s : State) (h : RxHeader) (period : Nat)

theorem marked_faults : (s.marked h period).faults = s.faults := by
  obtain ⟨ns, eq⟩ := marked_frame s h period
  rw [eq]
  rfl

theorem hear_tableLength : (s.hear h period).faults.table.length = s.faults.table.length := by
  rw [hear_eq, neighboursChanged_tableLength, marked_faults]

theorem marked_size : (s.marked h period).chan.neighbours.length = s.chan.neighbours.length := by
  unfold State.marked
  dsimp only
  split <;> simp

theorem hear_size : (s.hear h period).chan.neighbours.length = s.chan.neighbours.length := by
  rw [hear_neighbours, marked_size]

theorem hear_clock : (s.hear h period).ret.clock = s.ret.clock := (hear_leaves s h period).2.2.1

/-- R34: stations already FRESH heard again leave the count of disputes. -/
theorem marked_dispute (sender : (s.neighbour h.sender).state = .fresh) (origin : (s.neighbour h.origin).state = .fresh)
    (first : 1 ≤ h.sender) (first' : 1 ≤ h.origin) :
    (s.marked h period).chan.neighbours.map Neighbour.dispute = s.chan.neighbours.map Neighbour.dispute := by
  have again : ((s.neighbour h.sender).heardAsSender s.now period).dispute = (s.neighbour h.sender).dispute := by
    simp [Neighbour.dispute, Neighbour.heardAsSender, sender]
  unfold State.marked
  dsimp only
  split
  · exact map_setNeighbour again
  next other =>
    refine (map_setNeighbour ?_).trans (map_setNeighbour again)
    have entry := neighbour_setNeighbour_other (s := s) (e := (s.neighbour h.sender).heardAsSender s.now period) first first'
      fun same => other (.inl same.symm)
    simp [Neighbour.dispute, Neighbour.heardAsOrigin, entry, origin]

theorem hear_judged (table : s.faults.table.length = 22) :
    (s.hear h period).ClocksJudged ∧ (s.hear h period).TariffJudged := by
  rw [hear_eq]
  exact judged_neighboursChanged _ (by rw [marked_faults, table])

/-- R34: stations already FRESH heard again leave CLOCK DISAGREE, judged before. -/
theorem hear_clocks (judged : s.ClocksJudged) (sender : (s.neighbour h.sender).state = .fresh)
    (origin : (s.neighbour h.origin).state = .fresh) (first : 1 ≤ h.sender) (first' : 1 ≤ h.origin) :
    SameEntry .clockDisagree s (s.hear h period) ∧ (s.hear h period).disputedFresh = s.disputedFresh := by
  have count : (s.marked h period).disputedFresh = s.disputedFresh :=
    disputedFresh_of_dispute (marked_dispute s h period sender origin first first')
  have entry : SameEntry .clockDisagree s (s.marked h period) := by
    rw [SameEntry, State.faultEntry, marked_faults]
    rfl
  refine ⟨(neighboursChanged_clocks _ (judged.congr entry count)).trans entry, ?_⟩
  exact (disputedFresh_of_dispute (by rw [hear_neighbours])).trans count

end Heard

/-! ### A time step -/

section Step
variable (s : State) (cause : StepCause) (time epoch : Nat)

theorem timeStep_neighbours : (s.timeStep cause time epoch).chan.neighbours =
    s.chan.neighbours.map fun e => { e with disputed := false } := by
  obtain ⟨q, chan⟩ := (timeStep_frame s time epoch cause).chan
  rw [chan]
  rfl

theorem timeStep_undisputed : ∀ e ∈ (s.timeStep cause time epoch).chan.neighbours, e.disputed = false := by
  rw [timeStep_neighbours]
  intro e mem
  obtain ⟨x, -, rfl⟩ := List.mem_map.1 mem
  rfl

theorem timeStep_disputedFresh : (s.timeStep cause time epoch).disputedFresh = 0 :=
  List.countP_eq_zero.2 fun e mem => by simp [timeStep_undisputed s cause time epoch e mem]

theorem stepped_tableLength : (s.stepped time epoch).faults.table.length = s.faults.table.length :=
  (clearIf_tableLength _ true _).trans (clearIf_tableLength (s.setClock { time, epoch, set := true }) true _)

theorem timeStep_tableLength : (s.timeStep cause time epoch).faults.table.length = s.faults.table.length :=
  (sameBut_timeStep s time epoch cause).tableLength.trans ((deliver_tableLength _ _).trans (stepped_tableLength s time epoch))

theorem stepped_entry_other {k : FaultKind} (unset : k ≠ .timeUnset) (disagree : k ≠ .clockDisagree) :
    SameEntry k s (s.stepped time epoch) :=
  (clearIf_entry_other disagree _ true).trans
    (clearIf_entry_other unset (s.setClock { time, epoch, set := true }) true)

theorem timeStep_clocksJudged : (s.timeStep cause time epoch).ClocksJudged := by
  rw [State.ClocksJudged, (timeStep_active s time epoch cause).2, timeStep_disputedFresh]
  simp

theorem timeStep_tariffJudged (table : s.faults.table.length = 22) (judged : s.TariffJudged) :
    (s.timeStep cause time epoch).TariffJudged := by
  have same := sameBut_stepped s time epoch
  have stepped : (s.stepped time epoch).TariffJudged := by
    refine judged.congr (stepped_entry_other s time epoch nofun nofun) (behindBy_of_reporting same.active_eq ?_)
    rw [same.neighbours]
    exact List.map_map
  have given := sameBut_timeStep s time epoch cause
  exact (tariffJudged_deliver _ ((stepped_tableLength s time epoch).trans table) stepped _).congr
    (given.entry .tariffBehind) given.behindBy

/-- R34: a step at a station without the condition leaves its entry. -/
theorem timeStep_clocks (inactive : s.faultActive .clockDisagree = false) :
    SameEntry .clockDisagree s (s.timeStep cause time epoch) := by
  have cleared : SameEntry .clockDisagree s ((s.setClock { time, epoch, set := true }).clear .timeUnset).clearDisputes :=
    clearIf_entry_other (by decide) (s.setClock { time, epoch, set := true }) true
  have stepped : SameEntry .clockDisagree s (s.stepped time epoch) := by
    have stays := clearIf_of_inactive (cleared.active.trans inactive) true
    rw [State.stepped, State.clear, stays]
    exact cleared
  exact ((sameBut_timeStep s time epoch cause).entry .clockDisagree).trans
    ((deliver_entry_other (s.stepped time epoch) _ (k := .clockDisagree) nofun nofun).trans stepped)

end Step

/-! ### A sender in the own epoch (R32, R33) -/

section Equal
variable (s : State) (n : Nat) (late : Bool)

/-- R33: the state in which a sender's entry is disputed, or no longer, and CLOCK DISAGREE is judged. -/
def State.disputing : State := (s.setNeighbour n { s.neighbour n with disputed := late }).reconsiderClocks

theorem disputing_frame :
    SameButReports (s.setNeighbour n { s.neighbour n with disputed := late }) (s.disputing n late) :=
  sameBut_reconsiderClocks _

theorem disputing_clock : (s.disputing n late).ret.clock = s.ret.clock := (disputing_frame s n late).clock

theorem disputing_size : (s.disputing n late).chan.neighbours.length = s.chan.neighbours.length := by
  rw [(disputing_frame s n late).neighbours, setNeighbour_size]

theorem neighbour_of_neighbours {s t : State} (same : t.chan.neighbours = s.chan.neighbours) (n : Nat) :
    t.neighbour n = s.neighbour n := by
  rw [State.neighbour, same]
  rfl

theorem disputing_disputed (size : s.chan.neighbours.length = 30) (first : 1 ≤ n) (last : n ≤ 30) :
    ((s.disputing n late).neighbour n).disputed = late := by
  rw [neighbour_of_neighbours (disputing_frame s n late).neighbours, neighbour_setNeighbour_same size first last]

theorem disputing_tableLength : (s.disputing n late).faults.table.length = s.faults.table.length :=
  reconsiderClocks_tableLength _

theorem disputing_judged (table : s.faults.table.length = 22) (judged : s.TariffJudged) :
    (s.disputing n late).ClocksJudged ∧ (s.disputing n late).TariffJudged := by
  have same := disputing_frame s n late
  refine ⟨clocksJudged_reconsiderClocks _ table, judged.congr (reconsiderClocks_entry_other _ nofun)
    (behindBy_of_reporting same.active_eq ?_)⟩
  rw [same.neighbours]
  exact map_setNeighbour rfl

/-- R34: what one sender's dispute makes of CLOCK DISAGREE: a third raises it with detail 3, a count that stays on one side of
3 leaves its entry. -/
structure ClocksFollow (s t : State) : Prop where
  raised : s.disputedFresh < 3 → 3 ≤ t.disputedFresh → Raised s t .clockDisagree 3
  stays : (3 ≤ s.disputedFresh ↔ 3 ≤ t.disputedFresh) → SameEntry .clockDisagree s t

theorem ClocksFollow.after {s t u : State} (follow : ClocksFollow s t) (same : SameEntry .clockDisagree t u)
    (count : u.disputedFresh = t.disputedFresh) : ClocksFollow s u where
  raised fewer three := (follow.raised fewer (count ▸ three)).of_core same
  stays side := same.trans (follow.stays (count ▸ side))

theorem disputing_follow (table : s.faults.table.length = 22) (judged : s.ClocksJudged) :
    ClocksFollow s (s.disputing n late) := by
  have count := (disputing_frame s n late).disputedFresh
  have step : (s.setNeighbour n { s.neighbour n with disputed := late }).disputedFresh ≤ s.disputedFresh + 1 :=
    disputedFresh_setNeighbour_le
  refine ⟨fun fewer three => ?_, fun side => ?_⟩
  · have exactly : (s.setNeighbour n { s.neighbour n with disputed := late }).disputedFresh = 3 := by omega
    have inactive : s.faultActive .clockDisagree = false := by
      rw [Bool.eq_false_iff]
      exact fun active => absurd (judged.1 active) (by omega)
    have raised := reconsiderClocks_raises (s.setNeighbour n { s.neighbour n with disputed := late })
        (by omega) inactive table
    rw [exactly] at raised
    exact ⟨raised.detail, raised.raisedAt, raised.occurrences, raised.active, raised.refresh⟩
  · rw [count] at side
    have judged' : (s.setNeighbour n { s.neighbour n with disputed := late }).ClocksJudged := Iff.trans judged side
    rw [State.disputing, reconsiderClocks_stays _ judged']
    rfl

end Equal

section Advance
variable (s : State) (d : Nat)

theorem advanceBy_clock : (s.advanceBy d).ret.clock =
    { s.ret.clock with time := min (s.ret.clock.time + d) zoneTimeMax } := delivered_clock _ true

theorem advanceBy_neighbours : (s.advanceBy d).chan.neighbours = s.chan.neighbours := deliver_neighbours _ true

theorem advanceBy_tableLength : (s.advanceBy d).faults.table.length = s.faults.table.length := deliver_tableLength _ true

theorem advanceBy_clocks : SameEntry .clockDisagree s (s.advanceBy d) := deliver_entry_other _ true nofun nofun

theorem advanceBy_disputedFresh : (s.advanceBy d).disputedFresh = s.disputedFresh := deliver_disputedFresh _ true

theorem advanceBy_tariffJudged (table : s.faults.table.length = 22) (judged : s.TariffJudged) :
    (s.advanceBy d).TariffJudged :=
  tariffJudged_deliver (s.setClock { s.ret.clock with time := min (s.now + d) zoneTimeMax }) table judged true

end Advance

/-- R32, R33: a sender in the own epoch, not ahead or too far ahead, moves nothing; one between moves the clock by up to 2
seconds. -/
theorem mergeEqual_cases (s : State) (n time : Nat) :
    (time ≤ s.now ∧ s.mergeEqual n time = s.disputing n false) ∨
    (s.now + 120 < time ∧ s.mergeEqual n time = s.disputing n true) ∨
    (s.now < time ∧ time ≤ s.now + 120 ∧ s.mergeEqual n time = (s.disputing n false).advanceBy (min (time - s.now) 2)) := by
  unfold State.mergeEqual State.disputing
  dsimp only
  by_cases late : s.now + 120 < time
  · rw [if_pos (.inl late), decide_eq_true late]
    exact .inr (.inl ⟨late, rfl⟩)
  by_cases behind : time ≤ s.now
  · rw [if_pos (.inr behind), decide_eq_false late]
    exact .inl ⟨behind, rfl⟩
  · have between : ¬ (s.now + 120 < time ∨ time ≤ s.now) := fun x => x.elim late behind
    rw [if_neg between, decide_eq_false late]
    exact .inr (.inr ⟨by omega, by omega, rfl⟩)

/-! ### Time merged (R30, R31) -/

section Merge
variable (s : State) (h : RxHeader)

/-- R30 to R32: an accepted frame is not merged, taken as a step, or merged in the own epoch. -/
theorem mergeTime_cases :
    s.mergeTime h = s ∨ (∃ cause, s.mergeTime h = s.timeStep cause h.time h.epoch) ∨
      s.mergeTime h = s.mergeEqual h.sender h.time := by
  unfold State.mergeTime
  split
  · exact .inl rfl
  split
  · exact .inr (.inl ⟨_, rfl⟩)
  split
  · exact .inr (.inl ⟨_, rfl⟩)
  split
  · exact .inr (.inr rfl)
  · exact .inl rfl

theorem mergeTime_of_unset (unset : h.timeSet = false) : s.mergeTime h = s := by simp [State.mergeTime, unset]

theorem mergeTime_of_step (set : h.timeSet = true)
    (step : s.ret.clock.set = false ∨ epochNewer h.epoch s.ret.clock.epoch = true) :
    ∃ cause, s.mergeTime h = s.timeStep cause h.time h.epoch := by
  unfold State.mergeTime
  rw [set, if_neg (by simp)]
  split
  · exact ⟨_, rfl⟩
  next own =>
    have own : s.ret.clock.set = true := by simpa using own
    rw [if_pos (step.resolve_left (by simp [own]))]
    exact ⟨_, rfl⟩

theorem mergeTime_of_older (own : s.ret.clock.set = true) (older : epochNewer h.epoch s.ret.clock.epoch = false)
    (other : h.epoch ≠ s.ret.clock.epoch) : s.mergeTime h = s := by
  unfold State.mergeTime
  simp [own, older, other]

theorem mergeTime_of_equal (set : h.timeSet = true) (own : s.ret.clock.set = true) (same : h.epoch = s.ret.clock.epoch) :
    s.mergeTime h = s.mergeEqual h.sender h.time := by
  have notNewer : epochNewer s.ret.clock.epoch s.ret.clock.epoch = false := by
    simp only [epochNewer, byteSpan, decide_eq_false_iff_not]
    omega
  simp [State.mergeTime, set, own, same, notNewer]

theorem mergeTime_size : (s.mergeTime h).chan.neighbours.length = s.chan.neighbours.length := by
  obtain same | ⟨cause, step⟩ | equal := mergeTime_cases s h
  · rw [same]
  · rw [step, timeStep_neighbours, List.length_map]
  · rw [equal]
    obtain ⟨-, eq⟩ | ⟨-, eq⟩ | ⟨-, -, eq⟩ := mergeEqual_cases s h.sender h.time
    · rw [eq, disputing_size]
    · rw [eq, disputing_size]
    · rw [eq, advanceBy_neighbours, disputing_size]

theorem mergeTime_tableLength : (s.mergeTime h).faults.table.length = s.faults.table.length := by
  obtain same | ⟨cause, step⟩ | equal := mergeTime_cases s h
  · rw [same]
  · rw [step, timeStep_tableLength]
  · rw [equal]
    obtain ⟨-, eq⟩ | ⟨-, eq⟩ | ⟨-, -, eq⟩ := mergeEqual_cases s h.sender h.time
    · rw [eq, disputing_tableLength]
    · rw [eq, disputing_tableLength]
    · rw [eq, advanceBy_tableLength, disputing_tableLength]

/-- R34, R54: the merging of time keeps both conditions judged. -/
theorem mergeTime_judged (table : s.faults.table.length = 22) (clocks : s.ClocksJudged) (tariff : s.TariffJudged) :
    (s.mergeTime h).ClocksJudged ∧ (s.mergeTime h).TariffJudged := by
  obtain same | ⟨cause, step⟩ | equal := mergeTime_cases s h
  · rw [same]
    exact ⟨clocks, tariff⟩
  · rw [step]
    exact ⟨timeStep_clocksJudged s cause _ _, timeStep_tariffJudged s cause _ _ table tariff⟩
  · rw [equal]
    obtain ⟨-, eq⟩ | ⟨-, eq⟩ | ⟨-, -, eq⟩ := mergeEqual_cases s h.sender h.time
    · rw [eq]
      exact disputing_judged s _ _ table tariff
    · rw [eq]
      exact disputing_judged s _ _ table tariff
    · obtain ⟨clocks', tariff'⟩ := disputing_judged s h.sender false table tariff
      rw [eq]
      exact ⟨clocks'.congr (advanceBy_clocks _ _) (advanceBy_disputedFresh _ _),
        advanceBy_tariffJudged _ _ ((disputing_tableLength s _ _).trans table) tariff'⟩

theorem mergeTime_follow (table : s.faults.table.length = 22) (judged : s.ClocksJudged) : ClocksFollow s (s.mergeTime h) := by
  obtain same | ⟨cause, step⟩ | equal := mergeTime_cases s h
  · rw [same]
    exact ⟨fun fewer three => absurd three (by omega), fun _ => rfl⟩
  · have none := timeStep_disputedFresh s cause h.time h.epoch
    rw [step]
    refine ⟨fun _ three => absurd three (by omega), fun side => timeStep_clocks s cause _ _ ?_⟩
    rw [Bool.eq_false_iff]
    exact fun active => absurd (side.1 (judged.1 active)) (by omega)
  · rw [equal]
    obtain ⟨-, eq⟩ | ⟨-, eq⟩ | ⟨-, -, eq⟩ := mergeEqual_cases s h.sender h.time
    · rw [eq]
      exact disputing_follow s _ _ table judged
    · rw [eq]
      exact disputing_follow s _ _ table judged
    · rw [eq]
      exact (disputing_follow s _ false table judged).after (advanceBy_clocks _ _) (advanceBy_disputedFresh _ _)

end Merge

end Sys2Proof.Machine

/-! PROOF. An accepted frame's time, and the record of a STATUS frame: O45. -/

namespace Sys2Proof.Machine

/-! ### The state offered to the clock -/

/-- R12 to R14: from s to x the stations of a frame were noted and its sequence recorded, before its time is merged. -/
structure Noted (s x : State) (h : RxHeader) : Prop where
  clock : x.ret.clock = s.ret.clock
  size : x.chan.neighbours.length = s.chan.neighbours.length
  table : x.faults.table.length = s.faults.table.length
  judged : s.faults.table.length = 22 → x.ClocksJudged ∧ x.TariffJudged
  clocks : s.ClocksJudged → (s.neighbour h.sender).state = .fresh → (s.neighbour h.origin).state = .fresh →
    SameEntry .clockDisagree s x ∧ x.disputedFresh = s.disputedFresh

section Accepted
variable {s u : State} {h : RxHeader} {f : FrameForm} {isStatus : Bool} {r : Running}

theorem Accepts.inRange (acc : Accepts s h f isStatus r u) :
    (1 ≤ h.sender ∧ h.sender ≤ 30) ∧ (1 ≤ h.origin ∧ h.origin ≤ 30) ∧ h.epoch < 256 ∧ h.time ≤ zoneTimeMax := by
  obtain ⟨-, -, -, sender, sender', origin, origin', -, -, epoch, time, -⟩ := headerOk_iff.1 acc.header
  exact ⟨⟨sender, sender'⟩, ⟨origin, origin'⟩, epoch, time⟩

/-- R12 to R15: an accepted frame reaches its owner with its time merged into the state that noted it. -/
theorem noted_of_accepts (acc : Accepts s h f isStatus r u) : ∃ x, Noted s x h ∧ u = x.mergeTime h := by
  obtain ⟨x, recorded, rfl⟩ := Option.map_eq_some_iff.1 acc.offered
  obtain ⟨w, rfl⟩ := recordSeq_eq_some recorded
  obtain ⟨⟨first, -⟩, ⟨first', -⟩, -⟩ := acc.inRange
  generalize heard : s.hear h r.config.statusPeriod = v
  have clock : v.ret.clock = s.ret.clock := heard ▸ hear_clock s h _
  have size : v.chan.neighbours.length = s.chan.neighbours.length := heard ▸ hear_size s h _
  have table : v.faults.table.length = s.faults.table.length := heard ▸ hear_tableLength s h _
  have count : (v.setNeighbour h.origin { v.neighbour h.origin with window := some w }).disputedFresh = v.disputedFresh :=
    disputedFresh_of_dispute (map_setNeighbour rfl)
  refine ⟨v.setNeighbour h.origin { v.neighbour h.origin with window := some w },
    ⟨clock, setNeighbour_size.trans size, table, fun known => ?_, fun judged sender origin => ?_⟩, rfl⟩
  · obtain ⟨clocks, tariff⟩ := heard ▸ hear_judged s h r.config.statusPeriod known
    exact ⟨clocks.congr rfl count, tariff.congr rfl (behindBy_of_reporting rfl (map_setNeighbour rfl))⟩
  · obtain ⟨entry, same⟩ := heard ▸ hear_clocks s h r.config.statusPeriod judged sender origin first first'
    exact ⟨entry, count.trans same⟩

theorem Accepts.tableLength (acc : Accepts s h f isStatus r u) : u.faults.table.length = s.faults.table.length := by
  obtain ⟨x, noted, rfl⟩ := noted_of_accepts acc
  rw [mergeTime_tableLength, noted.table]

theorem Accepts.size (acc : Accepts s h f isStatus r u) : u.chan.neighbours.length = s.chan.neighbours.length := by
  obtain ⟨x, noted, rfl⟩ := noted_of_accepts acc
  rw [mergeTime_size, noted.size]

/-- R34, R54: an accepted frame reaches its owner with both conditions judged. -/
theorem Accepts.judged (acc : Accepts s h f isStatus r u) (table : s.faults.table.length = 22) :
    u.ClocksJudged ∧ u.TariffJudged := by
  obtain ⟨x, noted, rfl⟩ := noted_of_accepts acc
  obtain ⟨clocks, tariff⟩ := noted.judged table
  exact mergeTime_judged x h (noted.table.trans table) clocks tariff

/-- R34: between FRESH stations CLOCK DISAGREE follows the count of disputes. -/
theorem Accepts.follow (acc : Accepts s h f isStatus r u) (table : s.faults.table.length = 22) (judged : s.ClocksJudged)
    (sender : (s.neighbour h.sender).state = .fresh) (origin : (s.neighbour h.origin).state = .fresh) :
    ClocksFollow s u := by
  obtain ⟨x, noted, rfl⟩ := noted_of_accepts acc
  obtain ⟨entry, count⟩ := noted.clocks judged sender origin
  have follow := mergeTime_follow x h (noted.table.trans table) (noted.judged table).1
  refine ⟨fun fewer three => ?_, fun side => (follow.stays (by rw [count]; exact side)).trans entry⟩
  have raised := follow.raised (by rw [count]; exact fewer) three
  refine ⟨raised.detail, raised.raisedAt.trans (by rw [noted.clock]), raised.occurrences.trans ?_, raised.active,
    raised.refresh⟩
  have occurrences : (x.faultEntry .clockDisagree).occurrences = (s.faultEntry .clockDisagree).occurrences :=
    (congrArg FaultEntry.occurrences entry : _)
  rw [occurrences]

/-- R30, R31: what an accepted frame's time and epoch make of the own clock as a whole. -/
theorem Accepts.clock (acc : Accepts s h f isStatus r u) (epoch : s.ret.clock.epoch < 256) :
    (h.timeSet = false → u.ret.clock = s.ret.clock) ∧
    (h.timeSet = true → (s.ret.clock.set = false ∨ (1 ≤ (h.epoch + 256 - s.ret.clock.epoch) % 256 ∧
        (h.epoch + 256 - s.ret.clock.epoch) % 256 ≤ 127)) →
      u.ret.clock = { time := h.time, epoch := h.epoch, set := true } ∧ ∀ e ∈ u.chan.neighbours, e.disputed = false) ∧
    (h.timeSet = true → s.ret.clock.set = true → 128 ≤ (h.epoch + 256 - s.ret.clock.epoch) % 256 →
      u.ret.clock = s.ret.clock) := by
  obtain ⟨x, noted, rfl⟩ := noted_of_accepts acc
  have newer : epochNewer h.epoch x.ret.clock.epoch = true ↔ 1 ≤ (h.epoch + 256 - s.ret.clock.epoch) % 256 ∧
      (h.epoch + 256 - s.ret.clock.epoch) % 256 ≤ 127 := by
    simp only [epochNewer, noted.clock, byteSpan, decide_eq_true_eq, Nat.mod_eq_of_lt epoch]
  refine ⟨fun unset => ?_, fun set step => ?_, fun _ own older => ?_⟩
  · rw [mergeTime_of_unset x h unset, noted.clock]
  · obtain ⟨cause, stepped⟩ := mergeTime_of_step x h set (step.imp (noted.clock ▸ ·) newer.2)
    rw [stepped]
    exact ⟨timeStep_clock x h.time h.epoch cause, timeStep_undisputed x cause h.time h.epoch⟩
  · have notNewer : epochNewer h.epoch x.ret.clock.epoch = false := by
      rw [Bool.eq_false_iff, Ne, newer]
      omega
    rw [mergeTime_of_older x h (noted.clock ▸ own) notNewer (by rw [noted.clock]; omega), noted.clock]

/-- R32, R33: what the time of a sender in the own epoch makes of the own clock, and of the sender's dispute. -/
theorem Accepts.sameEpoch (acc : Accepts s h f isStatus r u) (size : s.chan.neighbours.length = 30)
    (set : h.timeSet = true) (own : s.ret.clock.set = true) (same : h.epoch = s.ret.clock.epoch) :
    (h.time ≤ s.ret.clock.time → u.ret.clock = s.ret.clock ∧ (u.neighbour h.sender).disputed = false) ∧
    (s.ret.clock.time < h.time → h.time ≤ s.ret.clock.time + 2 →
      u.ret.clock = { s.ret.clock with time := h.time } ∧ (u.neighbour h.sender).disputed = false) ∧
    (s.ret.clock.time + 2 < h.time → h.time ≤ s.ret.clock.time + 120 →
      u.ret.clock = { s.ret.clock with time := s.ret.clock.time + 2 } ∧ (u.neighbour h.sender).disputed = false) ∧
    (s.ret.clock.time + 120 < h.time → u.ret.clock = s.ret.clock ∧ (u.neighbour h.sender).disputed = true) := by
  obtain ⟨⟨first, last⟩, -, -, small⟩ := acc.inRange
  obtain ⟨x, noted, rfl⟩ := noted_of_accepts acc
  have now : x.now = s.ret.clock.time := congrArg Clock.time noted.clock
  have clock (late : Bool) : (x.disputing h.sender late).ret.clock = s.ret.clock :=
    (disputing_clock x h.sender late).trans noted.clock
  have disputed (late : Bool) : ((x.disputing h.sender late).neighbour h.sender).disputed = late :=
    disputing_disputed x h.sender late (noted.size.trans size) first last
  rw [mergeTime_of_equal x h set (noted.clock ▸ own) (noted.clock ▸ same)]
  obtain ⟨behind, eq⟩ | ⟨late, eq⟩ | ⟨ahead, near, eq⟩ := mergeEqual_cases x h.sender h.time
  · rw [eq]
    exact ⟨fun _ => ⟨clock false, disputed false⟩, fun _ _ => by omega, fun _ _ => by omega, fun _ => by omega⟩
  · rw [eq]
    exact ⟨fun _ => by omega, fun _ _ => by omega, fun _ _ => by omega, fun _ => ⟨clock true, disputed true⟩⟩
  · have moved (d : Nat) (within : s.ret.clock.time + d ≤ zoneTimeMax) :
        ((x.disputing h.sender false).advanceBy d).ret.clock = { s.ret.clock with time := s.ret.clock.time + d } := by
      rw [advanceBy_clock, clock, Nat.min_eq_left within]
    have undisputed (d : Nat) : (((x.disputing h.sender false).advanceBy d).neighbour h.sender).disputed = false := by
      rw [neighbour_of_neighbours (advanceBy_neighbours _ d)]
      exact disputed false
    rw [eq]
    refine ⟨fun _ => by omega, fun _ followed => ⟨?_, undisputed _⟩, fun slewed _ => ⟨?_, undisputed _⟩, fun _ => by omega⟩
    · rw [show min (h.time - x.now) 2 = h.time - s.ret.clock.time by omega, moved _ (by omega),
        Nat.add_sub_cancel' (by omega)]
    · rw [show min (h.time - x.now) 2 = 2 by omega, moved _ (by omega)]

end Accepted

/-! ### The values reported (R15, R19) -/

/-- R142: a round id heard changes the round, its last collection's round, and what reports change. -/
theorem onRound_frame (u : State) (id : RoundId) (w : RoundWord) :
    ∃ x l, OnlyReports (u.setRet { u.ret with round := x, lastCollection := l }) (u.onRound id w) := by
  have same : ∃ x l, OnlyReports (u.setRet { u.ret with round := x, lastCollection := l }) u := ⟨_, _, .refl u⟩
  have adopted (id : RoundId) (w : RoundWord) :
      ∃ x l, OnlyReports (u.setRet { u.ret with round := x, lastCollection := l }) (u.adoptRound id w) :=
    ⟨_, u.ret.lastCollection, onlyReports_giveRound (u.setRound _) _⟩
  unfold State.onRound
  split
  · exact same
  split
  · split
    · exact same
    · exact adopted id w
  next r held =>
  split
  · cases w with
    | opened c =>
      unfold State.sameRound
      dsimp only
      split
      · exact ⟨_, u.ret.lastCollection, .refl _⟩
      · exact same
    | entry c e => exact ⟨_, u.ret.lastCollection, .refl _⟩
    | closed =>
      unfold State.sameRound
      dsimp only
      split
      · exact ⟨_, u.ret.lastCollection, onlyReports_giveRound (u.setRound _) _⟩
      · exact same
    | status => exact same
  split
  · exact same
  split
  · split
    · exact ⟨_, _, onlyReports_foldRound u r id w⟩
    · exact same
  split
  · exact adopted id w
  · exact same

section Status
variable (u : State) (origin : Nat) (b : StatusBody)

/-- R19: a STATUS frame's round id follows its reported values. -/
theorem onStatus_frame : ∃ x l, OnlyReports ((u.reporting origin b).setRet
    { (u.reporting origin b).ret with round := x, lastCollection := l }) (u.onStatus origin b) := by
  cases round : b.round with
  | none => exact ⟨_, _, by simp only [State.onStatus, round]; exact .refl (u.reporting origin b)⟩
  | some id =>
    rw [onStatus_of_round round]
    exact onRound_frame _ id .status

/-- R19: the state in which the values of a STATUS frame are recorded and the distance recomputed. -/
def State.recorded : State :=
  (u.setNeighbour origin { u.neighbour origin with reported := some (reportedOf b) }).recomputeDistance

theorem reporting_eq : u.reporting origin b = (u.recorded origin b).reconsiderTariffIf true := rfl

theorem recorded_frame : OnlyReports
    ((u.setNeighbour origin { u.neighbour origin with reported := some (reportedOf b) }).setChan
    { (u.setNeighbour origin { u.neighbour origin with reported := some (reportedOf b) }).chan with
      distance := (u.setNeighbour origin { u.neighbour origin with reported := some (reportedOf b) }).distanceNow })
    (u.recorded origin b) := onlyReports_recomputeDistance _

theorem recorded_neighbours : (u.recorded origin b).chan.neighbours =
    (u.setNeighbour origin { u.neighbour origin with reported := some (reportedOf b) }).chan.neighbours :=
  (recorded_frame u origin b).neighbours

theorem recorded_entry (k : FaultKind) : SameEntry k u (u.recorded origin b) := (recorded_frame u origin b).entry k

theorem recorded_clock : (u.recorded origin b).ret.clock = u.ret.clock := (recorded_frame u origin b).clock

theorem recorded_tableLength : (u.recorded origin b).faults.table.length = u.faults.table.length :=
  (recorded_frame u origin b).tableLength

theorem recorded_clocksJudged (judged : u.ClocksJudged) : (u.recorded origin b).ClocksJudged := by
  refine judged.congr (recorded_entry u origin b _) (disputedFresh_of_dispute ?_)
  rw [recorded_neighbours]
  exact map_setNeighbour rfl

end Status

theorem distanceNow_congr {s t : State} (running : t.link.running = s.link.running)
    (neighbours : t.chan.neighbours = s.chan.neighbours) : t.distanceNow = s.distanceNow := by
  have sink : t.isSink = s.isSink := by rw [State.isSink, running]; rfl
  have channel : t.onChannel = s.onChannel := by rw [State.onChannel, running]; rfl
  rw [State.distanceNow, State.distanceNow, sink, channel, neighbours]

/-- R15, R19, R22: what a STATUS frame's step leaves of the state in which its values were recorded. -/
theorem onStatus_keeps (u : State) (origin : Nat) (b : StatusBody) :
    (u.onStatus origin b).chan.neighbours = (u.recorded origin b).chan.neighbours ∧
      (u.onStatus origin b).chan.distance = (u.onStatus origin b).distanceNow ∧
      (u.onStatus origin b).ret.clock = u.ret.clock ∧ (u.onStatus origin b).ret.active = (u.recorded origin b).ret.active ∧
      (u.onStatus origin b).permits = u.permits ∧ (u.onStatus origin b).cash = u.cash ∧
      (u.onStatus origin b).ret.box = u.ret.box ∧
      (u.onStatus origin b).stay.entries.map StayEntry.record = u.stay.entries.map StayEntry.record ∧
      ∀ k, SameEntry k (u.reporting origin b) (u.onStatus origin b) := by
  obtain ⟨x, l, follows⟩ := onStatus_frame u origin b
  have judged := sameBut_reconsiderTariffIf (u.recorded origin b) true
  have recorded := recorded_frame u origin b
  have neighbours : (u.onStatus origin b).chan.neighbours = (u.recorded origin b).chan.neighbours :=
    follows.neighbours.trans judged.neighbours
  refine ⟨neighbours, ?_, follows.clock.trans (judged.clock.trans recorded.clock), follows.active_eq.trans judged.active_eq,
    follows.permits.trans (judged.permits.trans recorded.permits), follows.cash.trans (judged.cash.trans recorded.cash),
    follows.box.trans (judged.box.trans recorded.box), follows.records.trans (judged.records.trans recorded.records),
    follows.entry⟩
  have running : (u.onStatus origin b).link.running = u.link.running :=
    follows.running.trans (judged.running.trans recorded.running)
  have distance {v w : State} (same : SameButReports v w) : w.chan.distance = v.chan.distance := by
    obtain ⟨q, chan⟩ := same.chan
    rw [chan]
  rw [distance follows.toSameButReports, setRet_chan, reporting_eq, distance judged, distance recorded.toSameButReports]
  exact (distanceNow_congr (s := u.setNeighbour origin { u.neighbour origin with reported := some (reportedOf b) })
    running (neighbours.trans (recorded_neighbours u origin b))).symm

/-- Settles O45. -/
theorem statusFrameRecorded : Obligations.StatusFrameRecorded := by
  refine ⟨fun s u h f isStatus r acc size epoch => ?merged, fun s u h r b acc size => ?recorded⟩
  case merged =>
    obtain ⟨unset, stepped, older⟩ := acc.clock epoch
    refine ⟨unset, stepped, older, acc.sameEpoch size, fun table => ?_⟩
    obtain ⟨clocks, tariff⟩ := acc.judged table
    refine ⟨clocks, tariff, fun sender origin judged => ?_⟩
    have follow := acc.follow table judged sender origin
    refine ⟨fun fewer three => ?_, fun side => ?_⟩
    · have raised := follow.raised fewer three
      exact ⟨raised.detail, raised.raisedAt, raised.occurrences⟩
    · have same := follow.stays side
      have read {α : Type} (f : FaultEntry → α) :
          f (u.faultEntry .clockDisagree).core = f (s.faultEntry .clockDisagree).core := congrArg f same
      exact ⟨read FaultEntry.detail, read FaultEntry.raisedAt, read FaultEntry.clearedAt, read FaultEntry.occurrences⟩
  case recorded =>
    obtain ⟨-, ⟨first, last⟩, -⟩ := acc.inRange
    obtain ⟨neighbours, distance, clock, active, permits, cash, box, records, entries⟩ := onStatus_keeps u h.origin b
    refine ⟨_, exec_statusFrame acc, ?_, distance.trans (distanceNow_congr (settle_running _) rfl).symm, clock, permits,
      cash, box, records, fun table => ?_⟩
    · have held : ((u.onStatus h.origin b).neighbour h.origin).reported = some (reportedOf b) := by
        rw [neighbour_of_neighbours (neighbours.trans (recorded_neighbours u h.origin b)),
          neighbour_setNeighbour_same (acc.size.trans size) first last]
      exact held
    · have table' : (u.recorded h.origin b).faults.table.length = 22 :=
        (recorded_tableLength u h.origin b).trans (acc.tableLength.trans table)
      have behind (v : Nat) : (u.onStatus h.origin b).behindBy v ↔ (u.recorded h.origin b).behindBy v :=
        behindBy_congr active neighbours v
      have clocks : (u.onStatus h.origin b).ClocksJudged :=
        (recorded_clocksJudged u h.origin b (acc.judged table).1).congr
          ((entries .clockDisagree).trans (reconsiderTariffIf_entry_other _ true nofun))
          (disputedFresh_of_dispute (by rw [neighbours]))
      have tariff : (u.onStatus h.origin b).TariffJudged :=
        (tariffJudged_reconsiderTariffIf _ table' true).congr (entries .tariffBehind)
          fun v => (behind v).trans ((sameBut_reconsiderTariffIf _ true).behindBy v).symm
      refine ⟨clocks, tariff, fun v held greatest => ?_⟩
      have newest : (u.recorded h.origin b).newestReported = some v := by
        cases eq : (u.recorded h.origin b).newestReported with
        | none => exact absurd ((behind v).1 held) (newestReported_of_none eq v)
        | some w =>
          obtain ⟨reported, bound⟩ := newestReported_of_some eq
          rw [Nat.le_antisymm (bound v ((behind v).1 held)) (greatest w ((behind w).2 reported))]
      have before {α : Type} (f : FaultEntry → α) : f ((u.recorded h.origin b).faultEntry .tariffBehind).core =
          f (u.faultEntry .tariffBehind).core := congrArg f (recorded_entry u h.origin b .tariffBehind)
      refine ⟨fun above => ?_, fun standing below => ?_⟩
      · have raised := (reconsiderTariffIf_raises _ newest table'
          (above.imp (before FaultEntry.active).trans fun lt => (before FaultEntry.detail).trans_lt lt) true).of_core
            (entries .tariffBehind)
        exact ⟨raised.detail, raised.raisedAt.trans (by rw [recorded_clock]),
          raised.occurrences.trans (congrArg (fun n => min (n + 1) 255) (before FaultEntry.occurrences))⟩
      · have stays := reconsiderTariffIf_stays _ newest ((before FaultEntry.active).trans standing)
          (below.trans_eq (before FaultEntry.detail).symm) true
        have same : SameEntry .tariffBehind u (u.onStatus h.origin b) := by
          refine (entries .tariffBehind).trans ?_
          rw [reporting_eq, stays]
          exact recorded_entry u h.origin b .tariffBehind
        have read {α : Type} (f : FaultEntry → α) : f ((u.onStatus h.origin b).faultEntry .tariffBehind).core =
          f (u.faultEntry .tariffBehind).core := congrArg f same
        exact ⟨read FaultEntry.detail, read FaultEntry.raisedAt, read FaultEntry.occurrences⟩

end Sys2Proof.Machine

/-! PROOF. FAULT RAISE and FAULT CLEAR, and what becomes of the reports they make: O38. -/

namespace Sys2Proof.Machine

/-! ### A report dealt with (R155, R156) -/

section Deal
variable {s : State} {n : Nat} {x : FaultReport}

theorem dealReport_of_inbox (sink : s.isSink = true)
    (entered : (s.toInbox { x with origin := s.own } none true).2 = true) :
    s.dealReport n x = (s.toInbox { x with origin := s.own } none true).1.markReported n x := by
  rw [State.dealReport, if_pos sink]
  dsimp only
  rw [if_pos entered]

theorem dealReport_of_queued {w : State} {q : Nat} (noSink : s.isSink = false) (near : s.chan.distance < 7)
    (handed : s.handOwn (.fault n { x with origin := s.own }) = (w, .queued q)) :
    s.dealReport n x = w.markReported n x := by
  simp only [State.dealReport, noSink, near, handed, Bool.false_eq_true, if_false, if_true]

theorem dealReport_of_refused {w : State} (noSink : s.isSink = false) (near : s.chan.distance < 7)
    (handed : s.handOwn (.fault n { x with origin := s.own }) = (w, .refused)) :
    s.dealReport n x = w.deferAfterRefusal n x := by
  simp only [State.dealReport, noSink, near, handed, Bool.false_eq_true, if_false, if_true]

theorem dealReport_of_far (noSink : s.isSink = false) (far : 7 ≤ s.chan.distance) :
    s.dealReport n x = s.setFaultEntry x.kind { s.faultEntry x.kind with deferred := some { made := n, report := x } } := by
  simp only [State.dealReport, noSink, Nat.not_lt.2 far, Bool.false_eq_true, if_false]

theorem deferAfterRefusal_of_held
    (held : (∃ d, (s.faultEntry x.kind).deferred = some d ∧ d.givesWay n x = false) ∨
      ∃ l, (s.faultEntry x.kind).lastAdmitted = some l ∧ n < l) : s.deferAfterRefusal n x = s := by
  refine if_pos (held.imp ?_ ?_)
  · rintro ⟨d, deferred, stands⟩
    simp [deferred, stands]
  · rintro ⟨l, admitted, later⟩
    exact ⟨l, admitted, later⟩

theorem deferAfterRefusal_of_free (gives : ∀ d, (s.faultEntry x.kind).deferred = some d → d.givesWay n x = true)
    (admitted : ∀ l, (s.faultEntry x.kind).lastAdmitted = some l → l ≤ n) :
    s.deferAfterRefusal n x =
      s.setFaultEntry x.kind { s.faultEntry x.kind with deferred := some { made := n, report := x } } := by
  refine if_neg ?_
  rintro (stands | ⟨l, mem, later⟩)
  · obtain ⟨d, deferred, stands⟩ := (Option.any_eq_true _ _).1 stands
    simp [gives d deferred] at stands
  · exact absurd (admitted l mem) (Nat.not_le.2 later)

end Deal

theorem handOwn_of_low {s : State} {r : Running} {b : QueuedBody} (running : s.link.running = some r) (onChannel :
    r.number ≠ 0)
    (full : 16 ≤ s.chan.queue.length) (low : ¬ (b.cls = .urgent ∨ b.cls = .claim)) : s.handOwn b = (s, .refused) := by
  simp [State.handOwn, running, onChannel, Nat.not_lt.2 full, low]

theorem isSink_of_running {s : State} {r : Running} (running : s.link.running = some r) : s.isSink = r.config.sink := by
  simp [State.isSink, running]

/-- R154: the report reads the entry but for its reports. -/
theorem reportOf_of_core {s : State} {k : FaultKind} {e e' : FaultEntry} (same : e.core = e'.core) (tr : Transition)
    (origin : Nat) : s.reportOf k e tr origin = s.reportOf k e' tr origin := by
  have read {α : Type} (f : FaultEntry → α) : f e.core = f e'.core := congrArg f same
  have raisedAt : e.raisedAt = e'.raisedAt := read FaultEntry.raisedAt
  have detail : e.detail = e'.detail := read FaultEntry.detail
  have occurrences : e.occurrences = e'.occurrences := read FaultEntry.occurrences
  rw [State.reportOf, raisedAt, detail, occurrences]
  rfl

section Made
variable {s : State} {r : Running} {k : FaultKind} {e : FaultEntry}

/-- R154 to R156: the report of an entry's transition is dealt with, the entry's report fields standing as before. -/
theorem reportDealt_makeReport (running : s.link.running = some r) (inside : faultCode k < s.faults.table.length)
    (reported : e.lastReported = (s.faultEntry k).lastReported) (deferred : e.deferred = (s.faultEntry k).deferred)
    (admitted : e.lastAdmitted = (s.faultEntry k).lastAdmitted) (tr : Transition) :
    ReportDealt s ((s.setFaultEntry k e).makeReport k tr) r k (s.reportOf k e tr) := by
  let v := (s.setFaultEntry k e).setFaults { (s.setFaultEntry k e).faults with made := s.faults.made + 1 }
  have entry : v.faultEntry k = e := faultEntry_setFaultEntry_self e inside
  have made : (s.setFaultEntry k e).makeReport k tr = v.dealReport s.faults.made (s.reportOf k e tr 0) := by
    rw [State.makeReport, faultEntry_setFaultEntry_self e inside]
    rfl
  have own : v.own = r.number := own_of_running running
  have sink : v.isSink = r.config.sink := isSink_of_running running
  have filled : ({ s.reportOf k e tr 0 with origin := v.own } : FaultReport) = s.reportOf k e tr r.number := by
    rw [own]
    rfl
  have read (w : State) (table : w.faults.table = v.faults.table) : w.faultEntry k = e := by
    rw [← entry, State.faultEntry, table]
    rfl
  have marked (w : State) (table : w.faults.table = v.faults.table) (now : w.now = s.ret.clock.time) :
      (w.markReported s.faults.made (s.reportOf k e tr 0)).faultEntry k = { e with
        lastReported := some s.ret.clock.time
        lastAdmitted := some (max s.faults.made ((s.faultEntry k).lastAdmitted.getD 0))
        deferred := (s.faultEntry k).deferred.filter fun d => !d.givesWay s.faults.made (s.reportOf k e tr 0) } := by
    have inside : faultCode k < w.faults.table.length := by
      rw [table]
      simpa [v] using inside
    rw [← deferred, ← admitted, ← now, ← read w table]
    exact faultEntry_setFaultEntry_self _ inside
  have held : ({ v.faultEntry k with deferred := some (MadeReport.mk s.faults.made (s.reportOf k e tr 0)) } : FaultEntry) =
      (v.setFaultEntry k
        { v.faultEntry k with deferred := some (MadeReport.mk s.faults.made (s.reportOf k e tr 0)) }).faultEntry k :=
    (faultEntry_setFaultEntry_self _ (by simpa [v] using inside)).symm
  rw [made]
  refine ⟨fun isSink room => ?sink, fun noSink number near room => ?channel,
    fun noSink number near full low gives least => ?refused, fun noSink far => ?far⟩
  case sink =>
    obtain ⟨entered, faults, -, ret⟩ := toInbox_of (s := v) (x := { s.reportOf k e tr 0 with origin := v.own }) (seq := none)
      (inboxAfter_of_room room true)
    rw [dealReport_of_inbox (sink.trans isSink) entered]
    have entry' := marked _ (congrArg FaultBlock.table faults : _) (congrArg (fun x : Retained => x.clock.time) ret)
    refine ⟨(congrArg FaultBlock.inbox faults).trans ?_, congrArg FaultEntry.lastReported entry',
      congrArg FaultEntry.deferred entry'⟩
    rw [filled]
    rfl
  case channel =>
    have handed := handOwn_of_room (s := v) (b := .fault s.faults.made { s.reportOf k e tr 0 with origin := v.own }) running
      number room
    rw [dealReport_of_queued (sink.trans noSink) near handed]
    have entry' := marked ((v.setRet { v.ret with seq := (s.ret.seq + 1) % wordSpan }).setQueue (v.chan.queue ++
      [ownEntry (.fault s.faults.made { s.reportOf k e tr 0 with origin := v.own }) v.own
          ((s.ret.seq + 1) % wordSpan)])) rfl rfl
    refine ⟨?_, congrArg FaultEntry.lastReported entry', congrArg FaultEntry.deferred entry',
      congrArg FaultEntry.lastAdmitted entry'⟩
    rw [← filled, ← own]
    exact List.mem_append_right _ (List.mem_singleton.2 rfl)
  case refused =>
    have handed : v.handOwn (.fault s.faults.made { s.reportOf k e tr 0 with origin := v.own }) = (v, .refused) := by
      have notHigh : ¬ (faultClass (s.reportOf k e tr 0) = .urgent ∨ faultClass (s.reportOf k e tr 0) = .claim) := by
        rintro (urgent | claim)
        · exact low urgent
        · unfold faultClass at claim
          split at claim
          · cases claim
          · split at claim <;> cases claim
      exact handOwn_of_low running number full notHigh
    rw [dealReport_of_refused (sink.trans noSink) near handed, deferAfterRefusal_of_free]
    · exact ⟨congrArg FaultEntry.deferred held.symm, (congrArg FaultEntry.lastReported held.symm).trans
        ((congrArg FaultEntry.lastReported entry).trans reported)⟩
    · intro d held'
      exact gives d (deferred.symm.trans ((congrArg FaultEntry.deferred entry).symm.trans held'))
    · intro l held'
      exact least l (admitted.symm.trans ((congrArg FaultEntry.lastAdmitted entry).symm.trans held'))
  case far =>
    rw [dealReport_of_far (sink.trans noSink) far]
    exact ⟨congrArg FaultEntry.deferred held.symm, (congrArg FaultEntry.lastReported held.symm).trans
      ((congrArg FaultEntry.lastReported entry).trans reported)⟩

end Made

/-! ### What follows the report -/

/-- R17: a STATUS frame queued changes no fault and puts out no entry of the queue. -/
theorem queueStatus_leaves (s : State) :
    s.queueStatus.faults = s.faults ∧ ∀ x ∈ s.chan.queue, x ∈ s.queueStatus.chan.queue := by
  unfold State.queueStatus
  split
  · unfold State.handOwn
    split
    · exact ⟨rfl, fun _ mem => mem⟩
    split
    · exact ⟨rfl, fun _ mem => mem⟩
    split
    · exact ⟨rfl, fun _ mem => List.mem_append_left _ mem⟩
    · exact ⟨rfl, fun _ mem => mem⟩
  · exact ⟨rfl, fun _ mem => mem⟩

/-- R152: a derivation changes the service state alone of the fault unit, and puts out no entry of the queue. -/
theorem derive_leaves (s : State) (c : ServiceCause) :
    (s.derive c).faults.table = s.faults.table ∧ (s.derive c).faults.inbox = s.faults.inbox ∧
      ∀ x ∈ s.chan.queue, x ∈ (s.derive c).chan.queue := by
  unfold State.derive
  dsimp only
  split
  · exact ⟨rfl, rfl, fun _ mem => mem⟩
  generalize (NoticeBody.serviceChanged s.faults.service s.derivedService s.cashBarred s.cardBarred c) = b
  obtain ⟨faults, chan, -⟩ := give_frame (s.setFaults { s.faults with service := s.derivedService }) b
  obtain ⟨faults', stays⟩ := queueStatus_leaves ((s.setFaults { s.faults with service := s.derivedService }).give b)
  rw [faults] at faults'
  rw [chan] at stays
  exact ⟨(congrArg FaultBlock.table faults' : _), (congrArg FaultBlock.inbox faults' : _), stays⟩

/-- R155: what became of a report stands while the entry, the inbox and the queue's entries do. -/
theorem ReportDealt.after {s t u : State} {r : Running} {k : FaultKind} {rep : Nat → FaultReport}
    (dealt : ReportDealt s t r k rep) (entry : u.faultEntry k = t.faultEntry k) (inbox : u.faults.inbox = t.faults.inbox)
    (queue : ∀ x ∈ t.chan.queue, x ∈ u.chan.queue) : ReportDealt s u r k rep := by
  refine ⟨?_, ?_, ?_, ?_⟩
  · rw [entry, inbox]
    exact dealt.sink
  · rw [entry]
    exact fun noSink number near room => (dealt.channel noSink number near room).imp_left (queue _)
  · rw [entry]
    exact dealt.refused
  · rw [entry]
    exact dealt.far

section Host
variable {s : State} {r : Running} {kind : Nat} {k : FaultKind}

/-- R150: the host kinds are conditions. -/
theorem hostKind_condition (host : hostKind kind = some k) : isEventKind k = false := by
  have conditions : ∀ n : Fin 8, (allFaultKinds[n.val]?).all (fun k => !isEventKind k) = true := by decide
  unfold hostKind at host
  split at host
  next small =>
    have condition := conditions ⟨kind, small⟩
    rw [host] at condition
    simpa using condition
  · cases host

theorem hostKind_of_large (large : 8 ≤ kind) : hostKind kind = none := if_neg (Nat.not_lt.2 large)

/-- R148, R149, R154: an entry changed, its report made and the service state derived. -/
theorem reportDealt_derive (running : s.link.running = some r) (inside : faultCode k < s.faults.table.length)
    {e : FaultEntry} (reported : e.lastReported = (s.faultEntry k).lastReported)
    (deferred : e.deferred = (s.faultEntry k).deferred) (admitted : e.lastAdmitted = (s.faultEntry k).lastAdmitted)
    (tr : Transition) (c : ServiceCause) :
    ReportDealt s (((s.setFaultEntry k e).makeReport k tr).derive c) r k
      (s.reportOf k ((((s.setFaultEntry k e).makeReport k tr).derive c).faultEntry k) tr) := by
  have dealt := reportDealt_makeReport running inside reported deferred admitted tr
  obtain ⟨table, inbox, queue⟩ := derive_leaves ((s.setFaultEntry k e).makeReport k tr) c
  have entry : (((s.setFaultEntry k e).makeReport k tr).derive c).faultEntry k =
      ((s.setFaultEntry k e).makeReport k tr).faultEntry k := by
    rw [State.faultEntry, table]
    rfl
  have core : (((s.setFaultEntry k e).makeReport k tr).faultEntry k).core = e.core := by
    rw [(onlyReports_makeReport _ k tr).entry, faultEntry_setFaultEntry_self e inside]
  have report : s.reportOf k ((((s.setFaultEntry k e).makeReport k tr).derive c).faultEntry k) tr = s.reportOf k e tr :=
    funext fun origin => reportOf_of_core (by rw [entry, core]) tr origin
  rw [report]
  exact dealt.after entry inbox queue

theorem reportDealt_raise (running : s.link.running = some r) (condition : isEventKind k = false)
    (table : s.faults.table.length = 22) (d : Nat) :
    ReportDealt s (s.raise k d) r k (s.reportOf k ((s.raise k d).faultEntry k) .raised) := by
  have inside : faultCode k < s.faults.table.length := table ▸ faultCode_lt k
  have entry : s.raisedEntry k d = { s.faultEntry k with
      raisedAt := some s.now, occurrences := countUp (s.faultEntry k).occurrences, detail := d % wordSpan, active := true
      refresh := some 600 } := by
    simp [State.raisedEntry, condition]
  rw [State.raise, raiseIf_of_condition condition, entry]
  exact reportDealt_derive (s := s) running inside (by rfl) (by rfl) (by rfl) .raised (.fault k)

theorem reportDealt_clear (running : s.link.running = some r) (active : s.faultActive k = true) :
    ReportDealt s (s.clear k) r k (s.reportOf k ((s.clear k).faultEntry k) .cleared) := by
  rw [State.clear, clearIf_of_active active]
  exact reportDealt_derive (e := s.clearedEntry k) running (lt_of_faultActive active) rfl rfl rfl .cleared (.fault k)

theorem SameBlocks.refl (s : State) : SameBlocks s s := ⟨rfl, rfl, rfl, rfl, rfl, rfl, rfl, rfl, rfl, rfl, rfl, rfl⟩

theorem SameBlocks.faultEntry {u t : State} (same : SameBlocks u t) (k : FaultKind) : t.faultEntry k = u.faultEntry k := by
  rw [State.faultEntry, same.table]
  rfl

theorem SameBlocks.derived {u t : State} (same : SameBlocks u t) (derived : u.Derived) : t.Derived := by
  have service : t.derivedService = u.derivedService :=
    derivedService_congr (fun k => congrArg FaultEntry.active (same.faultEntry k)) (by
      simp only [State.compartmentOpen, same.ret])
  exact same.service.trans (derived.trans service.symm)

theorem SameBlocks.reportDealt {u t : State} {rep : Nat → FaultReport} (same : SameBlocks u t)
    (dealt : ReportDealt s u r k rep) : ReportDealt s t r k rep :=
  dealt.after (same.faultEntry k) same.inbox fun x mem => by rw [same.chan]; exact mem

end Host

/-- Settles O38. -/
theorem hostFaultsRaisedAndCleared : Obligations.HostFaultsRaisedAndCleared := by
  refine ⟨fun s r kind detail free table => ⟨fun bad => ?badRaise, fun k host small => ?raised⟩,
    fun s n x => ⟨deferAfterRefusal_of_held, fun d deferred gives least table => ?deferred⟩,
    fun s r kind free large => ?badClear, fun s r kind k free host => ⟨fun active => ?cleared, fun inactive => ?inactive⟩⟩
  case badRaise =>
    have handled : reqFaultRaise kind detail (s.taking r (.faultRaise kind detail)) =
        (s.taking r (.faultRaise kind detail), s.badFault) := by
      unfold reqFaultRaise
      split
      · rfl
      next host =>
        have large : wordSpan ≤ detail := bad.resolve_left fun large => by simp [hostKind_of_large large] at host
        rw [if_pos large]
        rfl
    obtain ⟨t, step, answered, walk, blocks⟩ := answered_without_effect (q := .faultRaise kind detail) free nofun
      (congrArg atOnce handled)
    rw [State.badFault, ← blocks.service] at answered
    exact ⟨t, step, walk, blocks, answered⟩
  case raised =>
    have condition := hostKind_condition host
    generalize held : s.taking r (.faultRaise kind detail) = v
    have dealt : ReportDealt v (v.raise k detail) r k (v.reportOf k ((v.raise k detail).faultEntry k) .raised) :=
      reportDealt_raise (by rw [← held]; exact free.running) condition (by rw [← held]; exact table) detail
    have raised := raised_raise (s := v) (by rw [← held]; exact table) k detail
    have same := sameBut_raise v k detail
    have derived := raise_derived (s := v) k detail fun event => absurd event (by simp [condition])
    have handled : reqFaultRaise kind detail v = (v.raise k detail,
        .done (.raised ((v.raise k detail).faultEntry k).occurrences (v.raise k detail).faults.service)) := by
      unfold reqFaultRaise
      rw [host]
      exact if_neg (Nat.not_le.2 small)
    obtain ⟨t, step, answered, walk, blocks⟩ := answered_at_once (q := .faultRaise kind detail) free nofun
      (by rw [held]; exact congrArg atOnce handled) (same.walk.trans (by rw [← held]; exact free.isOpen.walk)) (.refl _)
    have entry := blocks.faultEntry k
    subst held
    refine ⟨t, step, walk, ?_, ?_, ?_, ?_, ?_, blocks.derived derived, ?_, ?_, ?_, ?_, ?_, ?_⟩
    · rw [entry]; exact raised.active condition
    · rw [entry]; exact raised.raisedAt
    · rw [entry]; exact raised.detail.trans (Nat.mod_eq_of_lt small)
    · rw [entry]; exact raised.occurrences
    · rw [entry]; exact raised.refresh condition
    · rw [entry, blocks.service]; exact answered
    · exact blocks.permits.trans same.permits
    · exact blocks.cash.trans same.cash
    · rw [blocks.ret]; exact same.box
    · rw [blocks.ret]; exact same.clock
    · have dealt' := blocks.reportDealt dealt
      rw [← entry] at dealt'
      exact ⟨dealt'.sink, dealt'.channel, dealt'.refused, dealt'.far⟩
  case deferred =>
    rw [deferAfterRefusal_of_free (fun d' held => ?_) least,
      faultEntry_setFaultEntry_self _ (table ▸ faultCode_lt _)]
    obtain rfl : d = d' := Option.some.inj (deferred.symm.trans held)
    exact gives
  case badClear =>
    have handled : reqFaultClear kind (s.taking r (.faultClear kind)) = (s.taking r (.faultClear kind), s.badFault) := by
      unfold reqFaultClear
      rw [hostKind_of_large large]
      rfl
    obtain ⟨t, step, answered, walk, blocks⟩ := answered_without_effect (q := .faultClear kind) free nofun
      (congrArg atOnce handled)
    rw [State.badFault, ← blocks.service] at answered
    exact ⟨t, step, walk, blocks, answered⟩
  case cleared =>
    generalize held : s.taking r (.faultClear kind) = v
    have active' : v.faultActive k = true := by rw [← held]; exact active
    have dealt : ReportDealt v (v.clear k) r k (v.reportOf k ((v.clear k).faultEntry k) .cleared) :=
      reportDealt_clear (by rw [← held]; exact free.running) active'
    have core := clearIf_entry active' true
    have read {α : Type} (f : FaultEntry → α) : f ((v.clear k).faultEntry k).core = f (v.clearedEntry k).core :=
      congrArg f core
    have same := sameBut_clear v k
    have handled : reqFaultClear kind v = (v.clear k, .done (.cleared false (v.clear k).faults.service)) := by
      unfold reqFaultClear
      rw [host]
      dsimp only
      rw [active']
      rfl
    obtain ⟨t, step, answered, walk, blocks⟩ := answered_at_once (q := .faultClear kind) free nofun
      (by rw [held]; exact congrArg atOnce handled) (same.walk.trans (by rw [← held]; exact free.isOpen.walk)) (.refl _)
    have entry := blocks.faultEntry k
    subst held
    refine ⟨t, step, walk, ?_, ?_, ?_, ?_, ?_, blocks.derived (clear_derived k fun off => absurd active'
        (by simp [off])), ?_, ?_,
      ?_, ?_, ?_⟩
    · rw [entry]; exact read FaultEntry.active
    · rw [entry]; exact read FaultEntry.clearedAt
    · rw [entry]; exact read FaultEntry.refresh
    · rw [entry]; exact read FaultEntry.occurrences
    · rw [entry]; exact read FaultEntry.detail
    · rw [blocks.service]; exact answered
    · exact blocks.permits.trans same.permits
    · exact blocks.cash.trans same.cash
    · rw [blocks.ret]; exact same.box
    · have dealt' := blocks.reportDealt dealt
      rw [← entry] at dealt'
      exact ⟨dealt'.sink, dealt'.channel, dealt'.refused, dealt'.far⟩
  case inactive =>
    have inactive' : (s.taking r (.faultClear kind)).faultActive k = false := inactive
    have handled : reqFaultClear kind (s.taking r (.faultClear kind)) =
        (s.taking r (.faultClear kind), .done (.cleared true s.faults.service)) := by
      unfold reqFaultClear
      rw [host]
      dsimp only
      rw [inactive', State.clear, clearIf_of_inactive inactive']
      rfl
    obtain ⟨t, step, answered, walk, blocks⟩ := answered_without_effect (q := .faultClear kind) free nofun
      (congrArg atOnce handled)
    exact ⟨t, step, walk, blocks, answered⟩

end Sys2Proof.Machine

/-! PROOF. START: O6. -/

namespace Sys2Proof.Machine

/-! ### The cash unit at START (R124, R129) -/

/-- R124: the box once the set handed by START is in force. -/
def BoxCounters.taking (box : BoxCounters) (ds : List Nat) : BoxCounters :=
  if box.items = 0 then { box with denominations := ds, counts := ds.map fun _ => 0 } else box

/-- R124: the waiting set once START has handed a set. -/
def CashBlock.taking (cash : CashBlock) (box : BoxCounters) (ds : List Nat) : Option (List Nat) :=
  if box.items ≠ 0 ∧ ds ≠ box.denominations then some ds else cash.waitingSet

section Denominations
variable (s : State) (ds : List Nat)

theorem takeDenominations_eq : s.takeDenominations ds =
    (s.setBox (s.ret.box.taking ds)).setCash { s.cash with waitingSet := s.cash.taking s.ret.box ds } := by
  unfold State.takeDenominations BoxCounters.taking CashBlock.taking
  by_cases empty : s.ret.box.items = 0
  · rw [if_pos empty, if_pos empty, if_neg fun x => x.1 empty]
    rfl
  · rw [if_neg empty, if_neg empty]
    split
    next same => rw [if_neg fun x => x.2 same]; rfl
    next other => rw [if_pos ⟨empty, other⟩]; rfl

/-- R124, R125, R129: the configuration's part that the cash unit takes changes the box, the waiting set, the capacity, the
round and the band, but for reports. -/
theorem startCash_frame (c : Configuration) : ∃ x, SameButReports
    (((s.setBox (s.ret.box.taking c.denominations)).setRound x).setCash { s.cash with
      waitingSet := s.cash.taking s.ret.box c.denominations, capacity := some c.capacity
      band := some (bandOf s.ret.box.items c.capacity) }) (s.startCash c) := by
  let u := ((s.setBox (s.ret.box.taking c.denominations)).setRound (s.ret.round.map fun r => r.place s.own)).setCash
    { s.cash with waitingSet := s.cash.taking s.ret.box c.denominations, capacity := some c.capacity }
  have started : s.startCash c = u.findBand := by
    rw [State.startCash, takeDenominations_eq]
    rfl
  have items : u.ret.box.items = s.ret.box.items := by
    show (s.ret.box.taking c.denominations).items = _
    unfold BoxCounters.taking
    split <;> rfl
  have found := sameBut_findBand (s := u) (c := c.capacity) rfl
  rw [items] at found
  rw [started]
  exact ⟨_, found⟩

end Denominations

section Begin
variable (s : State) (r : Running)

/-- R168: the state in which the cash unit takes its part of the configuration, but for reports. -/
def State.configured : State :=
  ((s.setLink (s.link.withConfiguration r)).setChan { s.chan with
    phase := if r.number = 0 then .deaf else .gap
    distance := if r.config.sink then 0 else 7
    statusTimer := some r.config.statusPeriod }).startLiveness r.config.liveness

theorem SameButReports.startLiveness {s t : State} (same : SameButReports s t) (n : Nat) :
    SameButReports (s.startLiveness n) (t.startLiveness n) := { same with liveness := rfl, quiet := rfl }

/-- R168: the state in which the cash unit takes its part of the configuration. -/
def State.listeningFirst : State :=
  if r.config.sink then (((s.setLink (s.link.withConfiguration r)).startChannel r).startLiveness r.config.liveness).offerDeferred
  else ((s.setLink (s.link.withConfiguration r)).startChannel r).startLiveness r.config.liveness

theorem sameBut_listeningFirst : SameButReports (s.configured r) (s.listeningFirst r) := by
  have channel : SameButReports ((s.setLink (s.link.withConfiguration r)).setChan { s.chan with
      phase := if r.number = 0 then .deaf else .gap
      distance := if r.config.sink then 0 else 7
      statusTimer := some r.config.statusPeriod }) ((s.setLink (s.link.withConfiguration r)).startChannel r) :=
    sameBut_queueStatus _
  have live := channel.startLiveness r.config.liveness
  unfold State.listeningFirst
  split
  · exact live.trans (sameBut_offerDeferred _)
  · exact live

/-- R167, R168: what a START that passes leaves. -/
structure Begun (s t : State) (r : Running) : Prop where
  running : t.link.running = some r
  reason : t.link.reason = s.link.reason
  statusTimer : t.chan.statusTimer = some r.config.statusPeriod
  distance : t.chan.distance = if r.config.sink then 0 else 7
  box : t.ret.box = if s.ret.box.items = 0 then
    { s.ret.box with denominations := r.config.denominations, counts := r.config.denominations.map fun _ => 0 } else s.ret.box
  waitingSet : t.cash.waitingSet = if s.ret.box.items ≠ 0 ∧ r.config.denominations ≠ s.ret.box.denominations then
    some r.config.denominations else s.cash.waitingSet
  capacity : t.cash.capacity = some r.config.capacity
  band : t.cash.band = some (bandOf s.ret.box.items r.config.capacity)
  liveness : t.faults.liveness = livenessFrom r.config.liveness
  clock : t.ret.clock = s.ret.clock
  cursor : t.stay.cursor = s.stay.cursor
  permits : t.permits = s.permits
  staging : t.staging = s.staging
  walk : t.walk = s.walk

theorem begun_begin : Begun s (s.begin r) r := by
  have first := sameBut_listeningFirst s r
  obtain ⟨x, taken⟩ := startCash_frame (s.listeningFirst r) r.config
  rw [first.box, first.cash] at taken
  have begun : s.begin r = (s.listeningFirst r).startCash r.config := rfl
  rw [begun]
  generalize (s.listeningFirst r).startCash r.config = t at taken
  obtain ⟨q, chan⟩ := first.chan
  obtain ⟨q', chan'⟩ := taken.chan
  obtain ⟨n, link⟩ := first.link
  obtain ⟨n', link'⟩ := taken.link
  constructor
  case running => rw [link', setCash_link, setRound_link, setBox_link, link]; rfl
  case reason => rw [link', setCash_link, setRound_link, setBox_link, link]; rfl
  case statusTimer => rw [chan', setCash_chan, setRound_chan, setBox_chan, chan]; rfl
  case distance => rw [chan', setCash_chan, setRound_chan, setBox_chan, chan]; rfl
  case box => exact taken.box
  case waitingSet => exact congrArg CashBlock.waitingSet taken.cash
  case capacity => exact congrArg CashBlock.capacity taken.cash
  case band => exact congrArg CashBlock.band taken.cash
  case liveness => exact taken.liveness.trans first.liveness
  case clock => exact taken.clock.trans first.clock
  case cursor => exact taken.cursor.trans first.cursor
  case permits => exact taken.permits.trans first.permits
  case staging => exact taken.staging.trans first.staging
  case walk => exact taken.walk.trans first.walk

end Begin

section Request
variable {s : State} {q : StartRequest}

theorem reqStart_of_passes {c : Configuration} {marks : Bool × Bool × Bool × Bool} (unstarted : s.link.running = none)
    (passes : checkStart q s.ret.box.items = .passes c marks) :
    reqStart q s = (s.begin ⟨strapNumber q.straps, c⟩, .done (.started
      ((s.begin ⟨strapNumber q.straps, c⟩).startReport ⟨strapNumber q.straps, c⟩ marks))) := by
  simp only [reqStart, unstarted, passes]

theorem reqStart_of_refused {reason : Reason} (unstarted : s.link.running = none)
    (refused : checkStart q s.ret.box.items = .refused reason) : reqStart q s = (s, .refuse reason) := by
  simp only [reqStart, unstarted, refused]

theorem reqStart_of_malformed (unstarted : s.link.running = none)
    (malformed : checkStart q s.ret.box.items = .malformed) : reqStart q s = (s, .bad) := by
  simp only [reqStart, unstarted, malformed]

theorem reqStart_of_started {r : Running} (running : s.link.running = some r) :
    reqStart q s = (s, .refuse .alreadyStarted) := by
  simp only [reqStart, running]

end Request

/-- R163, R167: a START written to a free link is answered in its step. -/
theorem exec_start {s u : State} {q : StartRequest} {a : Answer} (free : s.LinkOpen)
    (started : reqStart q (s.holding (soundFrame (.start q))) = (u, a)) :
    exec (.start q) s = .next (u.respond 1 a).settle := by
  have examined : (s.holding (soundFrame (.start q))).examine (soundFrame (.start q)) = (u, some a) := by
    rw [examine_of_sound rfl]
    generalize s.holding (soundFrame (.start q)) = v at started ⊢
    simp [State.examineContent, soundFrame, requestCode, takenBeforeStart, State.handle, atOnce, started]
  have written := writeFrame_of_examine free (goodRestart_soundFrame (q := .start q) nofun) examined
  exact (exec_commandOf_of_power free.power (.start q)).trans (by rw [written]; rfl)

/-- R163, R167: a START that takes no configuration is answered and touches no block. -/
theorem start_without_effect {s : State} {q : StartRequest} {a : Answer} (free : s.LinkOpen)
    (refused : reqStart q (s.holding (soundFrame (.start q))) = (s.holding (soundFrame (.start q)), a)) :
    ∃ t, exec (.start q) s = .next t ∧ t.Answered 1 a ∧ t.walk = none ∧ SameBlocks s t :=
  ⟨_, exec_start free refused, answered_respond_settle _ _ _,
    (holding_walk (soundFrame (.start q)) free.heard).trans free.walk,
    sameBlocks_respond_settle (sameBlocks_holding (soundFrame (.start q)) free.heard) _ _⟩

/-- Settles O6. -/
theorem startTakesConfiguration : Obligations.StartTakesConfiguration := by
  refine ⟨fun s q free unstarted => ?first, fun s r q free => ?second⟩
  case first =>
    have blocks := sameBlocks_holding (soundFrame (.start q)) free.heard
    have walk := holding_walk (soundFrame (.start q)) free.heard
    have link := holding_link (soundFrame (.start q)) free.heard
    generalize held : s.holding (soundFrame (.start q)) = v at blocks walk link
    have running : v.link.running = none := blocks.running.trans unstarted
    refine ⟨fun c marks passes => ?begins, fun reason refused => ?refuses, fun malformed => ?answers⟩
    case begins =>
      let r : Running := ⟨strapNumber q.straps, c⟩
      have begun : Begun v (v.begin r) r := begun_begin v r
      rw [← blocks.ret] at passes
      have handled := reqStart_of_passes running passes
      have box := begun.box
      have waiting := begun.waitingSet
      have band := begun.band
      rw [blocks.ret] at box waiting band
      rw [blocks.cash] at waiting
      have reason : (v.begin r).link.reason = s.link.reason := begun.reason.trans (by rw [link])
      subst held
      have step := exec_start (u := (s.holding (soundFrame (.start q))).begin r) free handled
      generalize (s.holding (soundFrame (.start q))).begin r = u at begun step box waiting band reason
      refine ⟨_, u.startReport r marks, step, ?_, begun.statusTimer, begun.distance, box, waiting, rfl,
        rfl, begun.capacity, band, begun.liveness, begun.clock.trans (by rw [blocks.ret]),
        begun.cursor.trans (by rw [blocks.stay]), begun.permits.trans blocks.permits, begun.staging.trans blocks.staging,
        begun.walk.trans (walk.trans free.walk), answered_respond_settle _ _ _, rfl, rfl, rfl, reason⟩
      exact (settle_running _).trans begun.running
    case refuses =>
      rw [← blocks.ret] at refused
      exact start_without_effect free (held ▸ reqStart_of_refused running refused)
    case answers =>
      rw [← blocks.ret] at malformed
      exact start_without_effect free (held ▸ reqStart_of_malformed running malformed)
  case second =>
    have running : (s.holding (soundFrame (.start q))).link.running = some r :=
      (sameBlocks_holding (soundFrame (.start q)) free.isOpen.heard).running.trans free.running
    exact start_without_effect free.isOpen (reqStart_of_started running)

end Sys2Proof.Machine

/-! PROOF. The end of a SELL's walk: the commit of a new session and of an extension, O22 and O23. -/

namespace Sys2Proof.Machine

/-! ### The record announced (R92) -/

section Announce
variable {u : State} {x : StayRecord} {r : Running}

theorem announce_of_refused {t : State} (handed : u.handOwn (.stay [x] false) = (t, .refused)) :
    u.announce x = t.setMark x.id true := by rw [State.announce, handed]

theorem announce_of_queued {t : State} {q : Nat} (handed : u.handOwn (.stay [x] false) = (t, .queued q)) :
    u.announce x = t.setMark x.id false := by rw [State.announce, handed]

theorem announce_of_completed {t : State} (handed : u.handOwn (.stay [x] false) = (t, .completed)) :
    u.announce x = t.setMark x.id false := by rw [State.announce, handed]

theorem marked_of_setMark (t : State) (id : Identity) (mark : Bool) :
    ∀ e ∈ (t.setMark id mark).stay.entries, e.record.id = id → e.unannounced = mark := by
  intro e mem same
  obtain ⟨y, -, rfl⟩ := List.mem_map.1 mem
  by_cases named : y.record.id = id
  · rw [if_pos named]
  · rw [if_neg named] at same
    exact absurd same named

/-- R92: the record committed is handed in a RECORD STAY frame. -/
theorem stayHanded_announce (running : u.link.running = some r) : StayHanded u (u.announce x) r x := by
  refine ⟨fun number room => ?_, fun number full => ?_, fun number => ?_⟩
  · have handed := handOwn_of_room (b := .stay [x] false) running number room
    have announced := announce_of_queued (x := x) handed
    rw [announced]
    refine ⟨?_, marked_of_setMark _ x.id false⟩
    show u.chan.queue ++ [ownEntry (.stay [x] false) u.own ((u.ret.seq + 1) % 65536)] = _
    rw [own_of_running running]
  · rw [announce_of_refused (handOwn_of_low running number full (by simp [QueuedBody.cls]))]
    exact ⟨rfl, marked_of_setMark _ x.id true⟩
  · rw [announce_of_completed (handOwn_of_local running number)]
    exact ⟨rfl, marked_of_setMark _ x.id false⟩

theorem setMark_faults (t : State) (id : Identity) (mark : Bool) : BandSame t (t.setMark id mark) :=
  ⟨rfl, rfl, fun _ _ => rfl, rfl, rfl, rfl, fun _ _ => Iff.rfl⟩

theorem bandSame_announce (u : State) (x : StayRecord) : BandSame u (u.announce x) := by
  have handed := bandSame_handOwn u (.stay [x] false)
  unfold State.announce
  split
  next e => rw [e] at handed; exact handed.trans (setMark_faults _ _ _)
  next e => rw [e] at handed; exact handed.trans (setMark_faults _ _ _)

end Announce

/-! ### The tender counted (R128, R129) -/

/-- R128: a tender that leaves its band changes the box alone. -/
theorem countCash_of_bandStays {u : State} {tender : Tender} {price excess : Nat} (stays : u.bandStays tender price excess) :
    ∃ b, u.countCash tender price excess = u.setBox b := by
  cases tender with
  | card => exact ⟨u.ret.box, rfl⟩
  | cash counts =>
    refine ⟨u.ret.box.add counts price excess, ?_⟩
    cases capacity : u.cash.capacity with
    | none => exact findBand_of_no_capacity capacity
    | some c => exact findBand_of_same capacity (stays counts c rfl capacity)

/-- R88 to R92, R128: what a committed sale leaves of the state v in which its record was written. -/
structure Sold (v t : State) (tender : Tender) (price excess : Nat) (x : StayRecord) : Prop where
  records : t.stay.entries.map StayEntry.record = v.stay.entries.map StayEntry.record
  card : tender = .card → t.ret.box = v.ret.box ∧ t.cash = v.cash
  cash : ∀ counts, tender = .cash counts → t.ret.box = v.ret.box.add counts price excess ∧ BandFound v t t.ret.box.items
  ticket : t.ret.ticket = v.ret.ticket
  clock : t.ret.clock = v.ret.clock
  permits : t.permits = v.permits
  staging : t.staging = v.staging
  walk : t.walk = v.walk
  handed : v.bandStays tender price excess → ∀ run, v.link.running = some run → StayHanded v t run x

/-- R128, R129: a tender counted changes the box and the band, but for reports. -/
theorem countCash_frame (v : State) (tender : Tender) (price excess : Nat) : ∃ box band,
    SameButReports ((v.setBox box).setCash { v.cash with band := band }) (v.countCash tender price excess) ∧
      (tender = .card → v.countCash tender price excess = v) ∧ ∀ counts, tender = .cash counts →
        box = v.ret.box.add counts price excess ∧ BandFound v (v.countCash tender price excess) box.items := by
  cases tender with
  | card => exact ⟨v.ret.box, v.cash.band, .refl v, fun _ => rfl, fun _ e => absurd e (by simp)⟩
  | cash counts =>
    obtain ⟨band, found⟩ := findBand_frame (v.setBox (v.ret.box.add counts price excess))
    have banded := bandFound_findBand (v.setBox (v.ret.box.add counts price excess))
    refine ⟨_, band, found, fun e => absurd e (by simp), fun counts' e => ?_⟩
    obtain rfl : counts = counts' := by simpa using e
    exact ⟨rfl, banded.congr ⟨rfl, rfl, fun _ _ => rfl, rfl, rfl, rfl, fun _ _ => Iff.rfl⟩ (.refl _)⟩

/-- R92: a sale finished, and answered at the end of its step. -/
theorem sold_finishSale (v : State) (terms : SaleTerms) (r : WalkResult) (x : StayRecord) (code : Nat) (a : Answer) :
    Sold v (((v.finishSale terms r x).1.respond code a).settle) terms.tender r.price r.excess x := by
  let u := v.countCash terms.tender r.price r.excess
  obtain ⟨box, band, counted, card, cash⟩ := countCash_frame v terms.tender r.price r.excess
  have announced := sameBut_announce u x
  have follows := bandSame_announce u x
  have ret : (u.announce x).ret = { v.ret with box := box, seq := (u.announce x).ret.seq } := by
    rw [announced.ret_eq, counted.ret_eq]
    rfl
  have held : (u.announce x).ret.box = box := by rw [ret]
  constructor
  case records => exact announced.records.trans counted.records
  case card =>
    intro paid
    have stands : u = v := card paid
    exact ⟨announced.box.trans (by rw [stands]), announced.cash.trans (by rw [stands])⟩
  case cash =>
    intro counts paid
    obtain ⟨added, found⟩ := cash counts paid
    refine ⟨held.trans added, ?_⟩
    show BandFound v _ (u.announce x).ret.box.items
    rw [held]
    exact found.congr (.refl v) (follows.trans ((bandSame_respond _ code a).trans (bandSame_settle _)))
  case ticket =>
    show (u.announce x).ret.ticket = _
    rw [ret]
  case clock =>
    show (u.announce x).ret.clock = _
    rw [ret]
  case permits => exact announced.permits.trans counted.permits
  case staging => exact announced.staging.trans counted.staging
  case walk => exact announced.walk.trans counted.walk
  case handed =>
    intro stays run running
    obtain ⟨b, same⟩ := countCash_of_bandStays stays
    have handed : StayHanded u (u.announce x) run x := stayHanded_announce
        (by rw [show u = v.setBox b from same]; exact running)
    rw [show u = v.setBox b from same] at handed
    have shown : (v.finishSale terms r x).1 = (v.setBox b).announce x := congrArg (State.announce · x) same
    rw [shown]
    exact ⟨handed.admitted, handed.refused, handed.inLocal⟩

/-! ### The end of the walk (R83, R88 to R90) -/

section End
variable {s : State} {w : Walk} {terms : SaleTerms}

/-- R83: the end of a SELL's walk that commits nothing refuses the SELL and touches no block. -/
theorem sellRefused (power : s.supply.power = true) (walk : s.walk = some w) (sale : w.sale = some terms) {a : Answer}
    (concluded : (s.setWalk none).concludeWalk w = (s.setWalk none, a)) :
    ∃ t, exec .walkEnd s = .next t ∧ t.walk = none ∧ SameBlocks s t ∧ t.Answered 9 a := by
  have step := exec_walkEnd power walk concluded
  rw [sale] at step
  exact ⟨_, step, rfl, sameBlocks_respond_settle (sameBlocks_endingWalk s) _ _, answered_respond_settle _ _ _⟩

variable {r x : WalkResult}

theorem concludeWalk_of_complete (sale : w.sale = some terms) (outcome : walkOutcome w = .result r)
    (complete : completeSale terms r = some x) (u : State) : u.concludeWalk w = u.commitSale w terms x := by
  simp only [State.concludeWalk, outcome, sale, complete]

theorem concludeWalk_of_short (sale : w.sale = some terms) (outcome : walkOutcome w = .result r)
    (short : completeSale terms r = none) (u : State) :
    u.concludeWalk w = (u, .refuse .shortPayment (.price r.price)) := by
  simp only [State.concludeWalk, outcome, sale, short]

theorem asked_of_result (outcome : walkOutcome w = .result r) : r.asked = w.asked := by
  unfold walkOutcome at outcome
  split at outcome
  · cases outcome
  split at outcome
  split at outcome
  · split at outcome <;> cases outcome
  · cases outcome
    rfl

theorem completeSale_of_short {counts : List Nat} {d : Nat} (outcome : walkOutcome w = .result r)
    (asked : w.asked = .duration d) (cash : terms.tender = .cash counts)
    (short : tenderTotal terms.examined counts < r.price) : completeSale terms r = none := by
  have given : r.asked = .duration d := (asked_of_result outcome).trans asked
  simp only [completeSale, given, cash, if_pos short]

/-- R128: a set in force that differs from the one examined has changed. -/
theorem tenderChanged_of_cash {counts : List Nat} (cash : terms.tender = .cash counts)
    (changed : s.ret.box.denominations ≠ terms.examined) : s.tenderChanged terms = true := by
  simp [State.tenderChanged, cash, changed]

theorem commitSale_of_new (new : w.continued = none) (unchanged : s.tenderChanged terms = false) :
    s.commitSale w terms x = ((s.takeTicket w.start).1.enterRecord (newRecord terms x (s.takeTicket w.start).2)).finishSale
      terms x (newRecord terms x (s.takeTicket w.start).2) := by
  unfold State.commitSale
  rw [new]
  exact if_neg (by simp [unchanged])

theorem commitSale_of_extension {h held : StayRecord} (continued : w.continued = some h)
    (found : foundAgain s.stay h w.table.name = .ok held) (unchanged : s.tenderChanged terms = false) :
    s.commitSale w terms x = (s.replaceRecord (extendedRecord held terms x s.own)).finishSale terms x
      (extendedRecord held terms x s.own) := by
  unfold State.commitSale
  rw [continued]
  dsimp only
  rw [found]
  exact if_neg (by simp [unchanged])

theorem sold_exec {v : State} (power : s.supply.power = true) (walk : s.walk = some w) (sale : w.sale = some terms)
    (outcome : walkOutcome w = .result r) (complete : completeSale terms r = some x) {y : StayRecord}
    (committed : (s.setWalk none).commitSale w terms x = v.finishSale terms x y) :
    ∃ t, exec .walkEnd s = .next t ∧ t.Answered 9 (soldAnswer x y) ∧ Sold v t terms.tender x.price x.excess y := by
  have concluded := (concludeWalk_of_complete sale outcome complete (s.setWalk none)).trans committed
  have step := exec_walkEnd power walk concluded
  rw [sale] at step
  exact ⟨_, step, answered_respond_settle _ _ _, sold_finishSale v terms x y 9 _⟩

end End

/-- What is found of the band from a state may be read of one that differs in stays, ticket and walk alone. -/
theorem bandSame_of_rest {s v : State} (cash : v.cash = s.cash) (faults : v.faults = s.faults) (link : v.link = s.link)
    (clock : v.ret.clock = s.ret.clock) : BandSame s v :=
  ⟨by rw [cash], by rw [cash], fun k _ => by rw [State.faultEntry, faults]; rfl, by rw [faults], by rw [clock],
    by rw [link], fun b _ => noticed_of_link link⟩

theorem freeTicket_of_free {t : StayTable} {own start n : Nat} (free : t.find { origin := own, number := n, start } = none)
    (fuel : Nat) : freeTicket t own start (fuel + 1) n = n := by
  simp [freeTicket, free]

/-- Settles O22. -/
theorem walkEndCommitsNewSession : Obligations.WalkEndCommitsNewSession := by
  refine ⟨fun s w terms power _ walk sale => ⟨fun reason c outcome => ?refused,
      fun r d counts outcome asked cash short => ?short,
    fun r x counts new outcome complete cash changed => ?changed⟩,
    fun s w terms r x power _ walk sale new outcome complete unchanged room => ?committed⟩
  case refused =>
    refine sellRefused power walk sale ?_
    unfold State.concludeWalk
    rw [outcome]
    rfl
  case short =>
    exact sellRefused power walk sale
      (concludeWalk_of_short sale outcome (completeSale_of_short outcome asked cash short) _)
  case changed =>
    refine sellRefused power walk sale ?_
    rw [concludeWalk_of_complete sale outcome complete, State.commitSale, new]
    exact if_pos (tenderChanged_of_cash (s := s.setWalk none) cash changed)
  case committed =>
    let taken := (s.setWalk none).takeTicket w.start
    have entered : taken.1.enterRecord (newRecord terms x taken.2) =
        taken.1.setEntries (insertEntry { record := newRecord terms x taken.2, unannounced := false } s.stay.entries) :=
      enterRecord_of_room (s := taken.1) room _
    obtain ⟨t, step, answered, sold⟩ := sold_exec power walk sale outcome complete
      (commitSale_of_new (s := s.setWalk none) new unchanged)
    rw [entered] at sold
    have records : t.stay.entries.map StayEntry.record =
        (insertEntry { record := newRecord terms x taken.2, unannounced := false } s.stay.entries).map StayEntry.record :=
      sold.records
    refine ⟨t, taken.2, step, sold.walk, rfl, rfl, fun free => freeTicket_of_free free _, sold.ticket, ?_, ?_, ?_, ?_, ?_,
      answered, sold.clock, sold.permits, sold.staging, fun stays run running => ?_⟩
    · have mem : newRecord terms x taken.2 ∈ t.stay.entries.map StayEntry.record := by
        rw [records]
        exact List.mem_map.2 ⟨_, mem_insertEntry.2 (.inl rfl), rfl⟩
      exact List.mem_map.1 mem
    · simpa using congrArg List.length records
    · cases paid : terms.tender with
      | card => exact (sold.card paid).1
      | cash counts => exact (sold.cash counts paid).1
    · exact fun paid => (sold.card paid).2
    · exact fun counts paid => (sold.cash counts paid).2.congr (bandSame_of_rest rfl rfl rfl rfl) (.refl t)
    · have handed := sold.handed stays run running
      exact ⟨handed.admitted, handed.refused, handed.inLocal⟩

/-- R90: what the finding again of a record came to. -/
theorem foundAgain_ok {t : StayTable} {taken held : StayRecord} {name : TariffName}
    (found : foundAgain t taken name = .ok held) : ∃ e, t.find taken.id = some e ∧ e.record = held := by
  unfold foundAgain at found
  split at found
  · cases found
  next e he =>
  split at found
  · cases found
  split at found
  · cases found
  cases found
  exact ⟨e, he, rfl⟩

/-- Settles O23. -/
theorem walkEndCommitsExtension : Obligations.WalkEndCommitsExtension := by
  refine ⟨fun s w terms r x h power _ walk sale continued outcome complete => ?refusals,
    fun s w terms r x h held power _ walk sale continued outcome complete found unchanged => ?committed⟩
  case refusals =>
    have refuses {reason : Reason} (again : foundAgain s.stay h w.table.name = .error reason) :
        ∃ t, exec .walkEnd s = .next t ∧ t.walk = none ∧ SameBlocks s t ∧ t.Answered 9 (.refuse reason) := by
      refine sellRefused power walk sale ?_
      rw [concludeWalk_of_complete sale outcome complete, State.commitSale, continued]
      dsimp only
      rw [show (s.setWalk none).stay = s.stay from rfl, again]
    refine ⟨fun none => refuses ?_, fun e he => ⟨fun differs => refuses ?_, fun same other => refuses ?_,
      fun same tariff counts cash changed => ?_⟩⟩
    · simp only [foundAgain, none]
    · simp only [foundAgain, he, differs, Bool.not_false, if_true]
    · simp [foundAgain, he, same, other]
    · have again : foundAgain s.stay h w.table.name = .ok e.record := by simp [foundAgain, he, same, tariff]
      refine sellRefused power walk sale ?_
      rw [concludeWalk_of_complete sale outcome complete, State.commitSale, continued]
      dsimp only
      rw [show (s.setWalk none).stay = s.stay from rfl, again]
      exact if_pos (tenderChanged_of_cash (s := s.setWalk none) cash changed)
  case committed =>
    let y := extendedRecord held terms x s.own
    obtain ⟨t, step, answered, sold⟩ := sold_exec power walk sale outcome complete
      (commitSale_of_extension (s := s.setWalk none) continued found unchanged)
    have records : t.stay.entries.map StayEntry.record = (insertEntry { record := y, unannounced := false }
        (s.stay.entries.filter fun e => !decide (e.record.id = y.id))).map StayEntry.record := sold.records
    refine ⟨t, step, sold.walk, ?_, ?_, answered, sold.ticket, ?_, ?_, ?_, sold.clock, sold.permits, sold.staging,
      fun stays run running => ?_⟩
    · have mem : y ∈ t.stay.entries.map StayEntry.record := by
        rw [records]
        exact List.mem_map.2 ⟨_, mem_insertEntry.2 (.inl rfl), rfl⟩
      exact List.mem_map.1 mem
    · intro e mem same
      have mem' : e.record ∈ t.stay.entries.map StayEntry.record := List.mem_map_of_mem mem
      rw [records] at mem'
      obtain ⟨z, held', eq⟩ := List.mem_map.1 mem'
      rcases mem_insertEntry.1 held' with rfl | other
      · exact eq.symm
      · have apart : z.record.id ≠ y.id := by simpa using (List.mem_filter.1 other).2
        exact absurd (by rw [eq, same]; rfl) apart
    · cases paid : terms.tender with
      | card => exact (sold.card paid).1
      | cash counts => exact (sold.cash counts paid).1
    · exact fun paid => (sold.card paid).2
    · exact fun counts paid => (sold.cash counts paid).2.congr (bandSame_of_rest rfl rfl rfl rfl) (.refl t)
    · have handed := sold.handed stays run running
      exact ⟨handed.admitted, handed.refused, handed.inLocal⟩

end Sys2Proof.Machine

/-! PROOF. The conditions and events of a start (R56, R136, R137, R144, R170), at a station not started: nothing is sent. -/

namespace Sys2Proof.Machine

/-! ### What changes at a station not started -/

/-- The station is not started, and its sink distance is 7: a report made is deferred, and a frame handed is refused. -/
def State.Silent (s : State) : Prop := s.link.running = none ∧ s.chan.distance = 7

/-- The state with other fault entries, another number of reports made, and other pending notices. -/
def State.told (s : State) (table : List FaultEntry) (made : Nat) (notices : List Notice) : State :=
  (s.setFaults { s.faults with table := table, made := made }).setLink { s.link with notices := notices }

/-- From s to t only fault entries, the number of reports made and pending notices changed. -/
def Quiet (s t : State) : Prop := ∃ table made notices, t = s.told table made notices

namespace Quiet
variable {s t u : State}

theorem refl (s : State) : Quiet s s := ⟨s.faults.table, s.faults.made, s.link.notices, rfl⟩

theorem trans (h : Quiet s t) (k : Quiet t u) : Quiet s u := by
  obtain ⟨_, _, _, rfl⟩ := h
  obtain ⟨table, made, notices, rfl⟩ := k
  exact ⟨table, made, notices, rfl⟩

theorem setRet (h : Quiet s t) (r : Retained) : Quiet (s.setRet r) (t.setRet r) := by
  obtain ⟨table, made, notices, rfl⟩ := h
  exact ⟨table, made, notices, rfl⟩

theorem setCash (h : Quiet s t) (c : CashBlock) : Quiet (s.setCash c) (t.setCash c) := by
  obtain ⟨table, made, notices, rfl⟩ := h
  exact ⟨table, made, notices, rfl⟩

theorem ret (h : Quiet s t) : t.ret = s.ret := by obtain ⟨_, _, _, rfl⟩ := h; rfl
theorem cash (h : Quiet s t) : t.cash = s.cash := by obtain ⟨_, _, _, rfl⟩ := h; rfl
theorem supply (h : Quiet s t) : t.supply = s.supply := by obtain ⟨_, _, _, rfl⟩ := h; rfl
theorem chan (h : Quiet s t) : t.chan = s.chan := by obtain ⟨_, _, _, rfl⟩ := h; rfl
theorem running (h : Quiet s t) : t.link.running = s.link.running := by obtain ⟨_, _, _, rfl⟩ := h; rfl

theorem silent (h : Quiet s t) (silent : s.Silent) : t.Silent :=
  ⟨h.running.trans silent.1, (congrArg ChannelBlock.distance h.chan).trans silent.2⟩

end Quiet

section Silent
variable {s : State}

theorem quiet_setFaultEntry (s : State) (k : FaultKind) (e : FaultEntry) : Quiet s (s.setFaultEntry k e) :=
  ⟨s.faults.table.set (faultCode k) e, s.faults.made, s.link.notices, rfl⟩

theorem quiet_give (s : State) (b : NoticeBody) : Quiet s (s.give b) := by
  obtain ⟨ns, given⟩ := give_eq s b
  exact ⟨s.faults.table, s.faults.made, ns, given⟩

/-- R155: a report made at a distance of 7 is deferred. -/
theorem quiet_makeReport (silent : s.Silent) (k : FaultKind) (t : Transition) : Quiet s (s.makeReport k t) := by
  have noSink : (s.setFaults { s.faults with made := s.faults.made + 1 }).isSink = false := by
    simp [State.isSink, silent.1]
  have numbered : Quiet s (s.setFaults { s.faults with made := s.faults.made + 1 }) :=
    ⟨s.faults.table, s.faults.made + 1, s.link.notices, rfl⟩
  unfold State.makeReport
  rw [dealReport_of_far noSink (Nat.le_of_eq silent.2.symm)]
  exact numbered.trans (quiet_setFaultEntry _ _ _)

theorem quiet_raise (silent : s.Silent) (k : FaultKind) (d : Nat) : Quiet s (s.raiseIf false k d) := by
  have entered := quiet_setFaultEntry s k (s.raisedEntry k d)
  have made := entered.trans (quiet_makeReport (entered.silent silent) k .raised)
  cases event : isEventKind k with
  | true => rw [raiseIf_of_event event]; exact made
  | false => rw [raiseIf_of_condition event]; exact made

theorem quiet_clear (silent : s.Silent) (k : FaultKind) : Quiet s (s.clearIf false k) := by
  cases active : s.faultActive k with
  | true =>
    have entered := quiet_setFaultEntry s k (s.clearedEntry k)
    rw [clearIf_of_active active]
    exact entered.trans (quiet_makeReport (entered.silent silent) k .cleared)
  | false => rw [clearIf_of_inactive active]; exact .refl s

theorem quiet_reconsiderTariff (silent : s.Silent) : Quiet s (s.reconsiderTariffIf false) := by
  unfold State.reconsiderTariffIf
  split
  · exact quiet_clear silent _
  · split
    · exact .refl s
    · exact quiet_raise silent _ _

theorem quiet_activateDue (silent : s.Silent) : Quiet (s.setRet s.ret.activated) (s.activateDue false) := by
  obtain ⟨x, awaiting, due⟩ | early := due_or_not s.ret
  · rw [activated_of_due awaiting due, activateDue_of_due awaiting due]
    have given := quiet_give (s.setRet { s.ret with active := some x, awaiting := none })
      (.tariffSwitched (s.ret.active.map TariffTable.name) x.name x.activation s.now)
    have cleared := given.trans (quiet_clear (given.silent silent) .noTariff)
    exact cleared.trans (quiet_reconsiderTariff (cleared.silent silent))
  · rw [activated_of_not_due early, activateDue_of_not_due early]
    exact .refl s

theorem quiet_giveRound (s : State) (c : RoundCause) : Quiet s (s.giveRound c) := by
  obtain ⟨ns, given⟩ := giveRound_link s c
  exact ⟨s.faults.table, s.faults.made, ns, given⟩

theorem quiet_expireRound (s : State) : Quiet (s.setRound s.ret.roundStanding) s.expireRound := by
  have stands (same : s.ret.roundStanding = s.ret.round) : s.setRound s.ret.roundStanding = s := by
    rw [same]
    rfl
  unfold State.expireRound
  split
  next none =>
    rw [stands (by rw [Retained.roundStanding, none]; rfl)]
    exact .refl s
  next x held =>
  split
  next expired =>
    have closed : s.ret.roundStanding = some { x with isOpen := false } := by
      have now : roundExpired x.id s.ret.clock.time = true := (Bool.and_eq_true_iff.1 expired).2
      simp [Retained.roundStanding, held, now]
    rw [closed]
    exact quiet_giveRound _ _
  next standing =>
    have same : (x.isOpen && !roundExpired x.id s.ret.clock.time) = x.isOpen := by
      cases isOpen : x.isOpen with
      | false => rfl
      | true =>
        have now : roundExpired x.id s.now = false := by simpa [isOpen] using standing
        rw [show roundExpired x.id s.ret.clock.time = false from now]
        rfl
    rw [stands (by rw [Retained.roundStanding, held, Option.map_some, same])]
    exact .refl s

/-- R9: a block of a station not started hands no frame. -/
theorem handEntry_of_silent (silent : s.Silent) : s.handEntry = s := by
  unfold State.handEntry
  split
  · rfl
  split
  · split
    · simp [State.handOwn, silent.1]
    · rfl
  · rfl

end Silent

/-! ### The lines against the door record (R136) -/

/-- R134, R136: the retained items once a box found ABSENT has been collected. -/
def Retained.collected (ret : Retained) : Retained :=
  { ret with
    box := BoxCounters.zero ret.box.denominations
    lastCollection := some
      { box := ret.box, time := ret.clock.time, cause := .foundAbsent, round := (ret.round.filter Round.isOpen).map Round.id }
    round := ret.round.map fun r =>
      if r.isOpen then r.fileUnplaced { lastAt := ret.clock.time, items := ret.box.items, value := ret.box.value } else r }

/-- R136: the retained items once the BOX line has been compared. -/
def Retained.boxCompared (ret : Retained) (absent : Bool) : Retained :=
  { (if absent && !ret.door.boxAbsent then ret.collected else ret) with door := { ret.door with boxAbsent := absent } }

/-- R136: the door record once the DOOR line has been compared. -/
def Retained.doorCompared (ret : Retained) (isOpen : Bool) : DoorRecord :=
  match isOpen, ret.door.doorOpen with
  | true, false =>
    { ret.door with
      doorOpen := true, openedAt := some ret.clock.time, openings := min (ret.door.openings + 1) 65535, latest := some .forced
      authorizedBy := none, forcedOutstanding := true }
  | false, true => { ret.door with doorOpen := false, closedAt := some ret.clock.time }
  | true, true | false, false => ret.door

section Compare
variable {s : State}

theorem compareBox_of_found (found : s.supply.boxAbsent = true) (held : s.ret.door.boxAbsent = false) :
    s.compareBox = s.removeBox false .foundAbsent := by simp only [State.compareBox, found, held]

theorem compareBox_of_inserted (found : s.supply.boxAbsent = false) (held : s.ret.door.boxAbsent = true) :
    s.compareBox = s.insertBox false := by simp only [State.compareBox, found, held]

theorem compareBox_of_same (same : s.supply.boxAbsent = s.ret.door.boxAbsent) : s.compareBox = s := by
  unfold State.compareBox
  split
  next found held => simp [found, held] at same
  next found held => simp [found, held] at same
  · rfl

theorem compareDoor_of_opened (found : s.supply.doorOpen = true) (held : s.ret.door.doorOpen = false) :
    s.compareDoor = s.openDoor false := by simp only [State.compareDoor, found, held]

theorem compareDoor_of_closed (found : s.supply.doorOpen = false) (held : s.ret.door.doorOpen = true) :
    s.compareDoor = s.closeDoor false := by simp only [State.compareDoor, found, held]

theorem compareDoor_of_open (found : s.supply.doorOpen = true) (held : s.ret.door.doorOpen = true) :
    s.compareDoor = s.setCash { s.cash with doorTimer := some 600 } := by simp only [State.compareDoor, found, held]

theorem compareDoor_of_shut (found : s.supply.doorOpen = false) (held : s.ret.door.doorOpen = false) : s.compareDoor = s := by
  simp only [State.compareDoor, found, held]

theorem consume_of_initial {u : State} (cash : u.cash = CashBlock.initial) : u.consume = u :=
  congrArg (State.setCash u) (by rw [cash]; rfl)

theorem giveDoor_eq (s : State) (e : LineEvent) (c : Option Collection) :
    s.giveDoor e c = s.give (.door e s.ret.door c) := rfl

/-- R136: a box found ABSENT at a start is collected, and DOOR tells it. -/
theorem compareBox_collects (silent : s.Silent) (cash : s.cash = CashBlock.initial) (found : s.supply.boxAbsent = true)
    (held : s.ret.door.boxAbsent = false) :
    s.compareBox = (s.setRet (s.ret.boxCompared true)).giveDoor .removal (s.ret.boxCompared true).lastCollection := by
  have unstarted : s.started = false := by simp [State.started, silent.1]
  have filed : s.filed (s.collection .foundAbsent) = s.ret.collected.round := by
    rw [State.filed, Retained.collected, unstarted]
    cases s.ret.round with
    | none => rfl
    | some r => cases isOpen : r.isOpen <;> simp [isOpen, State.collection, State.now]
  have taken : s.boxTaken .foundAbsent = s.setRet (s.ret.boxCompared true) := by
    have compared : s.ret.boxCompared true = { s.ret.collected with door := { s.ret.door with boxAbsent := true } } := by
      simp [Retained.boxCompared, held]
    rw [State.boxTaken, filed, cash, compared]
    exact congrArg (State.setCash _) cash.symm
  have banded : (s.setRet (s.ret.boxCompared true)).findBand = s.setRet (s.ret.boxCompared true) :=
    findBand_of_no_capacity (by rw [setRet_cash, cash]; rfl)
  have latched : (s.ret.boxCompared true).lastCollection = some (s.collection .foundAbsent) := by
    simp [Retained.boxCompared, held, Retained.collected, State.collection, State.openRound, State.now]
  rw [compareBox_of_found found held, removeBox_eq, taken, latched]
  simp only [State.deriveIf, banded, Bool.false_eq_true, if_false]
  rw [handEntry_of_silent (s := s.setRet (s.ret.boxCompared true)) silent, ite_self]

/-- R136: a box found PRESENT at a start is inserted, and DOOR tells it. -/
theorem compareBox_inserts (cash : s.cash = CashBlock.initial) (found : s.supply.boxAbsent = false)
    (held : s.ret.door.boxAbsent = true) :
    s.compareBox = (s.setRet (s.ret.boxCompared false)).giveDoor .insertion none := by
  have consumed : (s.setDoor { s.ret.door with boxAbsent := false }).consume = s.setDoor { s.ret.door with boxAbsent := false } :=
    consume_of_initial cash
  rw [compareBox_of_inserted found held, State.insertBox]
  simp only [State.deriveIf, Bool.false_eq_true, if_false, consumed, ite_self]
  rfl

/-- R136: a box that stands as recorded changes nothing. -/
theorem compareBox_stands (same : s.supply.boxAbsent = s.ret.door.boxAbsent) :
    s.compareBox = s ∧ s.ret.boxCompared s.supply.boxAbsent = s.ret := by
  refine ⟨compareBox_of_same same, ?_⟩
  rw [same, Retained.boxCompared, Bool.and_not_self]
  rfl

/-- R136: a door found OPEN at a start is taken as forced, and DOOR tells it. -/
theorem compareDoor_opens (cash : s.cash = CashBlock.initial) (found : s.supply.doorOpen = true)
    (held : s.ret.door.doorOpen = false) :
    s.compareDoor = ((((s.setDoor (s.ret.doorCompared true)).setCash { CashBlock.initial with doorTimer := some 600 }).raiseIf false
      .forcedDoor (min (s.ret.door.openings + 1) 65535)).giveDoor .opening none) := by
  rw [compareDoor_of_opened found held, State.openDoor]
  simp only [State.deriveIf, Bool.false_eq_true, if_false, cash, Retained.doorCompared, held]
  rfl

/-- R136: a door found CLOSED at a start is taken as a closing, and DOOR tells it. -/
theorem compareDoor_closes (cash : s.cash = CashBlock.initial) (found : s.supply.doorOpen = false)
    (held : s.ret.door.doorOpen = true) :
    s.compareDoor = ((s.setDoor (s.ret.doorCompared false)).clearIf false .doorOpenLong).giveDoor .closing none := by
  have stopped : (s.setDoor (s.ret.doorCompared false)).setCash { s.cash with doorTimer := none } =
      s.setDoor (s.ret.doorCompared false) :=
    congrArg (State.setCash (s.setDoor (s.ret.doorCompared false))) (by rw [cash]; rfl)
  have door : ({ s.ret.door with doorOpen := false, closedAt := some s.now } : DoorRecord) = s.ret.doorCompared false := by
    simp [Retained.doorCompared, held, State.now]
  rw [compareDoor_of_closed found held, State.closeDoor, door]
  simp only [State.deriveIf, Bool.false_eq_true, if_false, stopped]
  rw [consume_of_initial ((sameBut_clearIf (s.setDoor (s.ret.doorCompared false)) false .doorOpenLong).cash.trans cash),
      ite_self]

end Compare

/-! ### What the lines' comparison leaves -/

/-- R51, R144: a notice of an activation or of a round, which a start may give before the lines are compared. -/
def NoticeBody.OfStart (b : NoticeBody) : Prop := b.kind = .tariffSwitched ∨ b.kind = .roundChanged

theorem NoticeBody.OfStart.other {b : NoticeBody} (of : b.OfStart) :
    b.kind ≠ .door ∧ b.kind ≠ .faultInbox ∧ b.kind ≠ .serviceChanged := by
  rcases of with e | e <;> simp [e]

/-- R134 to R136: what the BOX line's comparison leaves, from u to t. -/
structure BoxStage (u t : State) : Prop where
  quiet : Quiet (u.setRet (u.ret.boxCompared u.supply.boxAbsent)) t
  entries : ∀ k, SameEntry k u t
  table : t.faults.table.length = u.faults.table.length
  kept : ∀ b : NoticeBody, b.OfStart → u.Noticed b → t.Noticed b
  told : u.supply.boxAbsent ≠ u.ret.door.boxAbsent → t.Noticed (.door (if u.supply.boxAbsent then .removal else .insertion)
    (u.ret.boxCompared u.supply.boxAbsent).door
    (if u.supply.boxAbsent then (u.ret.boxCompared u.supply.boxAbsent).lastCollection else none))

/-- R132, R133, R136: what the DOOR line's comparison leaves, from u to t. -/
structure DoorStage (u t : State) : Prop where
  quiet : Quiet ((u.setDoor (u.ret.doorCompared u.supply.doorOpen)).setCash
    { CashBlock.initial with doorTimer := if u.supply.doorOpen then some 600 else none }) t
  entries : ∀ k, k ≠ .forcedDoor → k ≠ .doorOpenLong → SameEntry k u t
  table : t.faults.table.length = u.faults.table.length
  openLong : u.faultActive .doorOpenLong = false → t.faultActive .doorOpenLong = false
  forced : u.supply.doorOpen = true → u.ret.door.doorOpen = false → u.faults.table.length = 22 →
    Raised u t .forcedDoor (min (u.ret.door.openings + 1) 65535)
  unforced : (u.supply.doorOpen = true → u.ret.door.doorOpen = true) → SameEntry .forcedDoor u t
  kept : ∀ b : NoticeBody, b.OfStart → u.Noticed b → t.Noticed b
  told : u.supply.doorOpen ≠ u.ret.door.doorOpen →
    t.Noticed (.door (if u.supply.doorOpen then .opening else .closing) (u.ret.doorCompared u.supply.doorOpen) none)
  stands : u.supply.doorOpen = u.ret.door.doorOpen → ∀ b : NoticeBody, u.Noticed b → t.Noticed b

section Stages
variable {u : State}

theorem level_of_silent (silent : u.Silent) (k : NoticeKind) : u.link.level k ≠ .off := by
  simp [MachineLink.level, silent.1]

theorem quiet_told (u : State) (x : State) (same : Quiet u x) (e : LineEvent) (c : Option Collection) :
    Quiet u (x.giveDoor e c) := same.trans (quiet_give x _)

theorem boxStage (silent : u.Silent) (cash : u.cash = CashBlock.initial) : BoxStage u u.compareBox := by
  have given (e : LineEvent) (x : State) (c : Option Collection) (k : FaultKind) : SameEntry k x (x.giveDoor e c) :=
    (onlyReports_give _ _).entry k
  have length (e : LineEvent) (x : State) (c : Option Collection) :
      (x.giveDoor e c).faults.table.length = x.faults.table.length := (onlyReports_give _ _).tableLength
  have kept (e : LineEvent) (x : State) (c : Option Collection) (b : NoticeBody) (of : b.OfStart) (noticed : x.Noticed b) :
      (x.giveDoor e c).Noticed b := (noticed_give_of_ne (Ne.symm of.other.1)).2 noticed
  by_cases same : u.supply.boxAbsent = u.ret.door.boxAbsent
  · obtain ⟨stands, ret⟩ := compareBox_stands same
    rw [stands]
    refine ⟨?_, fun _ => rfl, rfl, fun _ _ held => held, fun differs => absurd same differs⟩
    rw [ret]
    exact .refl u
  · cases found : u.supply.boxAbsent with
    | true =>
      have held : u.ret.door.boxAbsent = false := by simpa [found] using same
      rw [compareBox_collects silent cash found held]
      refine ⟨found ▸ quiet_told _ _ (.refl _) _ _, fun k => given _ _ _ k, length _ (u.setRet _) _,
        fun b of noticed => kept _ (u.setRet _) _ b of noticed, fun _ => ?_⟩
      rw [found]
      exact noticed_give (level_of_silent (u := u.setRet _) silent _)
    | false =>
      have held : u.ret.door.boxAbsent = true := by simpa [found] using same
      rw [compareBox_inserts cash found held]
      refine ⟨found ▸ quiet_told _ _ (.refl _) _ _, fun k => given _ _ _ k, length _ (u.setRet _) _,
        fun b of noticed => kept _ (u.setRet _) _ b of noticed, fun _ => ?_⟩
      rw [found]
      exact noticed_give (level_of_silent (u := u.setRet _) silent _)

/-- R136: what the DOOR line's comparison at a start leaves where the line stands as recorded. -/
theorem doorStage_stands (cash : u.cash = CashBlock.initial) (same : u.supply.doorOpen = u.ret.door.doorOpen) :
    DoorStage u u.compareDoor := by
  have ret : u.ret.doorCompared u.supply.doorOpen = u.ret.door := by
    cases held : u.ret.door.doorOpen <;> simp only [same, held, Retained.doorCompared]
  have timer : ∃ c : CashBlock, c = { CashBlock.initial with doorTimer := if u.supply.doorOpen then some 600 else none } ∧
      u.compareDoor = u.setCash c := by
    cases found : u.supply.doorOpen with
    | true => exact ⟨_, rfl, (compareDoor_of_open found (same ▸ found)).trans (by rw [cash]; rfl)⟩
    | false => exact ⟨_, rfl, (compareDoor_of_shut found (same ▸ found)).trans (congrArg (State.setCash u) cash)⟩
  obtain ⟨c, value, compared⟩ := timer
  rw [compared]
  refine ⟨?_, fun _ _ _ => rfl, rfl, fun inactive => inactive, fun found held => ?_, fun _ => rfl, fun _ _ held => held,
    fun differs => absurd same differs, fun _ _ held => held⟩
  · rw [ret, ← value]
    exact .refl (u.setCash c)
  · rw [found, held] at same
    cases same

theorem doorStage (silent : u.Silent) (cash : u.cash = CashBlock.initial) : DoorStage u u.compareDoor := by
  by_cases same : u.supply.doorOpen = u.ret.door.doorOpen
  · exact doorStage_stands cash same
  cases found : u.supply.doorOpen with
  | true =>
    have held : u.ret.door.doorOpen = false := by simpa [found] using same
    let v := (u.setDoor (u.ret.doorCompared true)).setCash { CashBlock.initial with doorTimer := some 600 }
    have raised := quiet_raise (s := v) silent .forcedDoor (min (u.ret.door.openings + 1) 65535)
    have door : (v.raiseIf false .forcedDoor (min (u.ret.door.openings + 1) 65535)).ret.door = u.ret.doorCompared true :=
      congrArg Retained.door raised.ret
    have level := level_of_silent (raised.silent silent) .door
    have given (k : FaultKind) := (onlyReports_give (v.raiseIf false .forcedDoor (min (u.ret.door.openings + 1) 65535))
      (.door .opening (u.ret.doorCompared true) none)).entry k
    rw [compareDoor_opens cash found held, giveDoor_eq, door]
    refine ⟨?_, fun k forced _ => ?_, (onlyReports_give _ _).tableLength.trans (raiseIf_tableLength v false _ _),
      fun inactive => ?_, fun _ _ table => ?_, fun agrees => ?_, fun b of noticed => ?_,
      fun _ => ?_, fun stands => absurd (found.symm.trans stands) (by simp [held])⟩
    · rw [found]
      exact raised.trans (quiet_give _ _)
    · exact (given k).trans (raiseIf_entry_other forced v false _)
    · refine (congrArg FaultEntry.active ((given .doorOpenLong).trans (raiseIf_entry_other (by decide) v false _)) :
        _).trans ?_
      exact inactive
    · have entered := (raised_raiseIf (s := v) (k := .forcedDoor) (by rw [show v.faults.table.length = 22 from table]; decide) false
        (min (u.ret.door.openings + 1) 65535)).of_core (given .forcedDoor)
      exact ⟨entered.detail, entered.raisedAt, entered.occurrences, entered.active, entered.refresh⟩
    · exact absurd (agrees found) (by simp [held])
    · obtain ⟨door, inbox, service⟩ := of.other
      exact (noticed_give_of_ne (Ne.symm door)).2 (((noticesKept_raiseIf v false _ _).noticed inbox service).2 noticed)
    · rw [found]
      exact noticed_give level
  | false =>
    have held : u.ret.door.doorOpen = true := by simpa [found] using same
    let v := u.setDoor (u.ret.doorCompared false)
    have cleared := quiet_clear (s := v) silent .doorOpenLong
    have door : (v.clearIf false .doorOpenLong).ret.door = u.ret.doorCompared false := congrArg Retained.door cleared.ret
    have level := level_of_silent (cleared.silent silent) .door
    have given (k : FaultKind) := (onlyReports_give (v.clearIf false .doorOpenLong)
      (.door .closing (u.ret.doorCompared false) none)).entry k
    have timer : (u.setDoor (u.ret.doorCompared false)).setCash { CashBlock.initial with doorTimer := none } = v :=
      congrArg (State.setCash v) cash.symm
    rw [compareDoor_closes cash found held, giveDoor_eq, door]
    refine ⟨?_, fun k _ long => ?_, (onlyReports_give _ _).tableLength.trans (clearIf_tableLength v false _),
        fun _ => ?_, fun opened _ _ => absurd (found.symm.trans opened) nofun, fun _ => ?_,
      fun b of noticed => ?_, fun _ => ?_, fun stands => absurd (found.symm.trans stands) (by simp [held])⟩
    · rw [found]
      simp only [Bool.false_eq_true, if_false]
      rw [timer]
      exact cleared.trans (quiet_give _ _)
    · exact (given k).trans (clearIf_entry_other long v false)
    · exact (congrArg FaultEntry.active (given .doorOpenLong) : _).trans (clearIf_inactive v false .doorOpenLong)
    · exact (given .forcedDoor).trans (clearIf_entry_other (by decide) v false)
    · obtain ⟨door, inbox, service⟩ := of.other
      exact (noticed_give_of_ne (Ne.symm door)).2 (((noticesKept_clearIf v false _).noticed inbox service).2 noticed)
    · rw [found]
      exact noticed_give level

end Stages

end Sys2Proof.Machine

/-! PROOF. What the conditions and events of a start leave (R56, R136, R137, R144, R161). -/

namespace Sys2Proof.Machine

/-! ### A condition raised where it holds -/

/-- R38, R53, R137, R161: a condition of a start raised where it holds. -/
def State.raiseWhen (s : State) (p : Bool) (k : FaultKind) (d : Nat) : State := if p then s.raiseIf false k d else s

section When
variable {s : State} {p : Bool} {k : FaultKind} {d : Nat}

theorem raiseWhen_true : s.raiseWhen true k d = s.raiseIf false k d := rfl

theorem raiseWhen_false : s.raiseWhen false k d = s := rfl

theorem quiet_raiseWhen (silent : s.Silent) : Quiet s (s.raiseWhen p k d) := by
  cases p
  · exact .refl s
  · exact quiet_raise silent k d

theorem raiseWhen_tableLength : (s.raiseWhen p k d).faults.table.length = s.faults.table.length := by
  cases p
  · rfl
  · exact raiseIf_tableLength s false k d

theorem raiseWhen_entry_other {j : FaultKind} (other : j ≠ k) : SameEntry j s (s.raiseWhen p k d) := by
  cases p
  · rfl
  · exact raiseIf_entry_other other s false d

theorem noticed_raiseWhen {b : NoticeBody} (of : b.kind ≠ .faultInbox ∧ b.kind ≠ .serviceChanged) :
    (s.raiseWhen p k d).Noticed b ↔ s.Noticed b := by
  cases p
  · exact Iff.rfl
  · exact (noticesKept_raiseIf s false k d).noticed of.1 of.2

theorem raised_raiseWhen (table : s.faults.table.length = 22) (holds : p = true) : Raised s (s.raiseWhen p k d) k d := by
  rw [holds]
  exact raised_raiseIf (table ▸ faultCode_lt k) false d

/-- A condition inactive before is active exactly where it holds. -/
theorem raiseWhen_active (table : s.faults.table.length = 22) (condition : isEventKind k = false)
    (inactive : s.faultActive k = false) : (s.raiseWhen p k d).faultActive k = p := by
  cases holds : p
  · exact inactive
  · exact (raised_raiseWhen table rfl).active condition

end When

theorem raiseUnready_eq (s : State) : s.raiseUnready =
    (s.raiseWhen (!s.ret.clock.set) .timeUnset 0).raiseWhen
      (!(s.raiseWhen (!s.ret.clock.set) .timeUnset 0).ret.active.isSome) .noTariff 0 := by
  unfold State.raiseUnready State.raiseWhen
  dsimp only
  cases s.ret.clock.set
  · simp only [Bool.not_false, Bool.false_eq_true, if_true, if_false]
    cases (s.raiseIf false .timeUnset 0).ret.active <;> rfl
  · simp only [Bool.not_true, Bool.false_eq_true, if_true, if_false]
    cases s.ret.active <;> rfl

theorem raiseForced_eq (s : State) : s.raiseForced = s.raiseWhen s.ret.door.forcedOutstanding .forcedDoor s.ret.door.openings := rfl

/-! ### Before the lines are compared -/

/-- R56: with no neighbour heard, no version is newer, and TARIFF BEHIND is cleared. -/
theorem reconsiderTariff_atStart {s : State} (unheard : s.chan = ChannelBlock.initial) (loud : Bool) :
    s.reconsiderTariffIf loud = s.clearIf loud .tariffBehind := by
  have none : s.newestReported = none := by
    cases newest : s.newestReported with
    | none => rfl
    | some v =>
      obtain ⟨x, e, rep, -, mem, fresh, -⟩ := (newestReported_of_some newest).1
      rw [unheard] at mem
      obtain rfl := List.eq_of_mem_replicate mem
      cases fresh
  simp only [State.reconsiderTariffIf, none]

/-- R51, R56: an activation at a start leaves NO TARIFF and TARIFF BEHIND inactive. -/
theorem activate_atStart {s : State} (unheard : s.chan = ChannelBlock.initial) (silent : s.Silent) (x : TariffTable) :
    (s.activate false x).faultActive .tariffBehind = false := by
  have given := quiet_give (s.setRet { s.ret with active := some x, awaiting := none })
    (.tariffSwitched (s.ret.active.map TariffTable.name) x.name x.activation s.now)
  have cleared := given.trans (quiet_clear (given.silent silent) .noTariff)
  exact (congrArg (fun t : State => t.faultActive .tariffBehind)
    (reconsiderTariff_atStart (cleared.chan.trans unheard) false)).trans (clearIf_inactive _ false _)

/-- R56, R137, R144: the state in which a start compares the lines, from its values v. -/
structure Prepared (v t : State) : Prop where
  quiet : Quiet (v.setRet { v.ret.activated with round := v.ret.roundStanding }) t
  switched : ∀ x, v.ret.awaiting = some x → x.activation ≤ v.ret.clock.time →
    t.Noticed (.tariffSwitched (v.ret.active.map TariffTable.name) x.name x.activation v.ret.clock.time)
  expired : ∀ r, v.ret.round = some r → r.isOpen = true → roundExpired r.id v.ret.clock.time = true →
    t.Noticed (.roundChanged .expired r.id r.collector false r.entries.length)
  noTariff : t.faultActive .noTariff = v.ret.activated.active.isNone
  timeUnset : t.faultActive .timeUnset = !v.ret.clock.set
  behind : t.faultActive .tariffBehind = false
  forced : t.faultActive .forcedDoor = v.ret.door.forcedOutstanding
  forcedDetail : v.ret.door.forcedOutstanding = true →
    (t.faultEntry .forcedDoor).detail = v.ret.door.openings % 65536 ∧
      (t.faultEntry .forcedDoor).raisedAt = some v.ret.clock.time
  others : ∀ k, k ≠ .noTariff → k ≠ .timeUnset → k ≠ .tariffBehind → k ≠ .forcedDoor → t.faultActive k = false
  table : t.faults.table.length = 22

theorem prepared_events {v : State} (values : InitialBlocks v) :
    Prepared v (((v.raiseUnready.activateDue false).expireRound).raiseForced) := by
  have silent : v.Silent := ⟨values.running, by rw [values.chan]; rfl⟩
  have table : v.faults.table.length = 22 := by rw [values.faults]; rfl
  have initial (k : FaultKind) : v.faultActive k = false := by
    rw [State.faultActive, State.faultEntry, values.faults]
    exact congrArg FaultEntry.active (List.getD_replicate _ (faultCode_lt k))
  -- R38, R53: TIME UNSET and NO TARIFF.
  let a := v.raiseWhen (!v.ret.clock.set) .timeUnset 0
  have quietA : Quiet v a := quiet_raiseWhen silent
  let b := a.raiseWhen (!a.ret.active.isSome) .noTariff 0
  have quietB : Quiet v b := quietA.trans (quiet_raiseWhen (quietA.silent silent))
  have tableB : b.faults.table.length = 22 := raiseWhen_tableLength.trans (raiseWhen_tableLength.trans table)
  have unsetB : b.faultActive .timeUnset = !v.ret.clock.set :=
    (raiseWhen_entry_other (by decide)).active.trans (raiseWhen_active table rfl (initial _))
  have noTariffB : b.faultActive .noTariff = b.ret.active.isNone := by
    rw [quietB.ret, ← Option.not_isSome, ← quietA.ret]
    exact raiseWhen_active (raiseWhen_tableLength.trans table) rfl
      ((raiseWhen_entry_other (by decide)).active.trans (initial _))
  have othersB (k : FaultKind) (unset : k ≠ .timeUnset) (noTariff : k ≠ .noTariff) : b.faultActive k = false :=
    (raiseWhen_entry_other noTariff).active.trans ((raiseWhen_entry_other unset).active.trans (initial k))
  -- R56, R144: the pending table and the round.
  let c := b.activateDue false
  have quietC : Quiet (v.setRet v.ret.activated) c := by
    have activated := quiet_activateDue (quietB.silent silent)
    rw [quietB.ret] at activated
    exact (quietB.setRet _).trans activated
  have tableC : c.faults.table.length = 22 := (activateDue_tableLength b false).trans tableB
  have silentC : c.Silent := quietC.silent silent
  have othersC (k : FaultKind) (noTariff : k ≠ .noTariff) (behind : k ≠ .tariffBehind) : c.faultActive k = b.faultActive k :=
    (congrArg FaultEntry.active (activateDue_entry_other b false noTariff behind) : _)
  have unheard : b.chan = ChannelBlock.initial := quietB.chan.trans values.chan
  have tariffC : c.faultActive .noTariff = v.ret.activated.active.isNone ∧ c.faultActive .tariffBehind = false := by
    obtain ⟨x, awaiting, due⟩ | early := due_or_not v.ret
    · have switched : c = b.activate false x :=
        activateDue_of_due (by rw [quietB.ret]; exact awaiting) (by rw [State.now, quietB.ret]; exact due) false
      rw [switched, activated_of_due awaiting due]
      exact ⟨activate_noTariff b false x, activate_atStart unheard (quietB.silent silent) x⟩
    · have stands : c = b := activateDue_of_not_due (by rw [State.now, quietB.ret]; exact early) false
      rw [stands, activated_of_not_due early]
      exact ⟨noTariffB.trans (by rw [quietB.ret]), othersB _ (by decide) (by decide)⟩
  let d := c.expireRound
  have standing : c.ret.roundStanding = v.ret.roundStanding := by
    rw [quietC.ret]
    exact activated_round v
  have quietD : Quiet (v.setRet { v.ret.activated with round := v.ret.roundStanding }) d := by
    have expired := quiet_expireRound c
    rw [standing, State.setRound, quietC.ret] at expired
    exact (quietC.setRet { v.ret.activated with round := v.ret.roundStanding }).trans expired
  have tableD : d.faults.table.length = 22 := (onlyReports_expireRound c).tableLength.trans tableC
  have sameD (k : FaultKind) : d.faultActive k = c.faultActive k := (onlyReports_expireRound c).active k
  have doorD : d.ret.door = v.ret.door := by
    rw [quietD.ret, setRet_ret, activated_eq]
  have clockD : d.ret.clock = v.ret.clock := by
    rw [quietD.ret, setRet_ret, activated_eq]
  -- R137: FORCED DOOR.
  rw [raiseUnready_eq]
  change Prepared v d.raiseForced
  rw [raiseForced_eq, doorD]
  have told {n : NoticeBody} (of : n.OfStart) (noticed : d.Noticed n) :
      (d.raiseWhen v.ret.door.forcedOutstanding .forcedDoor v.ret.door.openings).Noticed n :=
    (noticed_raiseWhen of.other.2).2 noticed
  have other {k : FaultKind} (forced : k ≠ .forcedDoor) :
      (d.raiseWhen v.ret.door.forcedOutstanding .forcedDoor v.ret.door.openings).faultActive k = c.faultActive k :=
    (raiseWhen_entry_other forced).active.trans (sameD k)
  constructor
  case quiet => exact quietD.trans (quiet_raiseWhen (quietD.silent silent))
  case switched =>
    intro x awaiting due
    refine told (.inl rfl) (noticed_expireRound c nofun ?_)
    have switched : c = b.activate false x :=
      activateDue_of_due (by rw [quietB.ret]; exact awaiting) (by rw [State.now, quietB.ret]; exact due) false
    have noticed := noticed_activate b false x (level_of_silent (quietB.silent silent) _)
    rw [quietB.ret] at noticed
    rw [switched]
    exact noticed
  case expired =>
    intro r round isOpen past
    have held : c.ret.round = some r := by
      rw [quietC.ret, setRet_ret, activated_eq]
      exact round
    have now : c.ret.clock.time = v.ret.clock.time := by
      rw [quietC.ret, setRet_ret, activated_eq]
    exact told (.inr rfl) (noticed_expired c held isOpen (by rw [now]; exact past) (level_of_silent silentC _))
  case noTariff => exact (other (by decide)).trans tariffC.1
  case timeUnset => exact (other (by decide)).trans ((othersC _ (by decide) (by decide)).trans unsetB)
  case behind => exact (other (by decide)).trans tariffC.2
  case forced =>
    refine raiseWhen_active tableD rfl ((sameD _).trans ((othersC _ (by decide) (by decide)).trans ?_))
    exact othersB _ (by decide) (by decide)
  case forcedDetail =>
    intro flagged
    have raised := raised_raiseWhen (k := .forcedDoor) (d := v.ret.door.openings) tableD flagged
    exact ⟨raised.detail, raised.raisedAt.trans (by rw [clockD])⟩
  case others =>
    intro k noTariff unset behind forced
    exact (other forced).trans ((othersC k noTariff behind).trans (othersB k unset noTariff))
  case table => exact raiseWhen_tableLength.trans tableD

end Sys2Proof.Machine

/-! PROOF. Warm and cold starts, power-up and the loss of main power: O9 and O10. -/

namespace Sys2Proof.Machine

/-! ### The retained items after a start -/

/-- R144: the retained items as a start finds them when it compares the lines. -/
def Retained.prepared (ret : Retained) : Retained := { ret.activated with round := ret.roundStanding }

/-- R136: the retained items after a start. -/
def Retained.started (ret : Retained) (lines : Supply) : Retained :=
  { ret.prepared.boxCompared lines.boxAbsent with
    door := (ret.prepared.boxCompared lines.boxAbsent).doorCompared lines.doorOpen }

section Items
variable (ret : Retained) (lines : Supply)

theorem boxCompared_eq (absent : Bool) : ∃ b l r, ret.boxCompared absent =
    { ret with box := b, lastCollection := l, round := r, door := { ret.door with boxAbsent := absent } } := by
  unfold Retained.boxCompared
  split
  · exact ⟨_, _, _, rfl⟩
  · exact ⟨ret.box, ret.lastCollection, ret.round, rfl⟩

/-- R170: what a start leaves of the retained items. -/
theorem started_eq : ∃ b l r d, ret.started lines =
    { ret with
      active := ret.activated.active, awaiting := ret.activated.awaiting, box := b, lastCollection := l, round := r
      door := d } := by
  obtain ⟨b, l, r, eq⟩ := boxCompared_eq ret.prepared lines.boxAbsent
  refine ⟨b, l, r, (ret.prepared.boxCompared lines.boxAbsent).doorCompared lines.doorOpen, ?_⟩
  rw [Retained.started, eq, Retained.prepared, activated_eq]

theorem prepared_door : ret.prepared.door = ret.door := by rw [Retained.prepared, activated_eq]

theorem prepared_clock : ret.prepared.clock = ret.clock := by rw [Retained.prepared, activated_eq]

theorem prepared_box : ret.prepared.box = ret.box := by rw [Retained.prepared, activated_eq]

theorem prepared_lastCollection : ret.prepared.lastCollection = ret.lastCollection := by rw [Retained.prepared, activated_eq]

theorem prepared_round : ret.prepared.round = ret.roundStanding := rfl

theorem boxCompared_door (absent : Bool) : (ret.boxCompared absent).door = { ret.door with boxAbsent := absent } := rfl

theorem boxCompared_clock (absent : Bool) : (ret.boxCompared absent).clock = ret.clock := by
  obtain ⟨_, _, _, eq⟩ := boxCompared_eq ret absent
  rw [eq]

theorem boxCompared_of_found (held : ret.door.boxAbsent = false) : ret.boxCompared true =
    { ret.collected with door := { ret.door with boxAbsent := true } } := by simp [Retained.boxCompared, held]

theorem boxCompared_of_uncollected {absent : Bool} (stands : absent = false ∨ ret.door.boxAbsent = true) :
    ret.boxCompared absent = { ret with door := { ret.door with boxAbsent := absent } } := by
  have none : (absent && !ret.door.boxAbsent) = false := by
    rcases stands with e | e <;> simp [e]
  simp [Retained.boxCompared, none]

theorem doorCompared_of_same {ret : Retained} {isOpen : Bool} (same : isOpen = ret.door.doorOpen) :
    ret.doorCompared isOpen = ret.door := by
  cases held : ret.door.doorOpen <;> simp only [same, held, Retained.doorCompared]

theorem doorCompared_of_opened {ret : Retained} (held : ret.door.doorOpen = false) : ret.doorCompared true =
    { ret.door with
      doorOpen := true, openedAt := some ret.clock.time, openings := min (ret.door.openings + 1) 65535, latest := some .forced
      authorizedBy := none, forcedOutstanding := true } := by simp only [Retained.doorCompared, held]

theorem doorCompared_of_closed {ret : Retained} (held : ret.door.doorOpen = true) : ret.doorCompared false =
    { ret.door with doorOpen := false, closedAt := some ret.clock.time } := by simp only [Retained.doorCompared, held]

/-- R132, R136: unless the door is found OPEN anew, the forced-outstanding flag and the count of openings stand. -/
theorem doorCompared_unforced {ret : Retained} {isOpen : Bool} (unforced : isOpen = true → ret.door.doorOpen = true) :
    (ret.doorCompared isOpen).forcedOutstanding = ret.door.forcedOutstanding ∧
      (ret.doorCompared isOpen).openings = ret.door.openings := by
  cases held : ret.door.doorOpen <;> cases isOpen
  · simp only [Retained.doorCompared, held, and_self]
  · exact absurd (unforced rfl) (by simp [held])
  · simp only [Retained.doorCompared, held, and_self]
  · simp only [Retained.doorCompared, held, and_self]

theorem boxCompared_prepared_door (absent : Bool) :
    (ret.prepared.boxCompared absent).door = { ret.door with boxAbsent := absent } := by
  rw [boxCompared_door, prepared_door]

theorem boxCompared_prepared_clock (absent : Bool) : (ret.prepared.boxCompared absent).clock = ret.clock := by
  rw [boxCompared_clock, prepared_clock]

/-- R56, R136, R144: the retained items r that a start leaves of ret and the lines. -/
structure StartedItems (r : Retained) : Prop where
  items : r.clock = ret.clock ∧ r.ticket = ret.ticket ∧ r.blockList = ret.blockList ∧ r.snapshot = ret.snapshot
  active : r.active = ret.activated.active
  awaiting : r.awaiting = ret.activated.awaiting
  found : lines.boxAbsent = true → ret.door.boxAbsent = false →
    r.lastCollection = some { box := ret.box, time := ret.clock.time, cause := .foundAbsent
                              round := (ret.roundStanding.filter Round.isOpen).map Round.id } ∧
      r.box = BoxCounters.zero ret.box.denominations ∧
      r.round = ret.roundStanding.map fun x =>
        if x.isOpen then x.fileUnplaced { lastAt := ret.clock.time, items := ret.box.items, value := ret.box.value } else x
  uncollected : (lines.boxAbsent = false ∨ ret.door.boxAbsent = true) →
    r.box = ret.box ∧ r.lastCollection = ret.lastCollection ∧ r.round = ret.roundStanding
  opened : lines.doorOpen = true → ret.door.doorOpen = false →
    r.door = { ret.door with
      doorOpen := true, boxAbsent := lines.boxAbsent, openedAt := some ret.clock.time
      openings := min (ret.door.openings + 1) 65535, latest := some .forced, authorizedBy := none
      forcedOutstanding := true }
  closed : lines.doorOpen = false → ret.door.doorOpen = true →
    r.door = { ret.door with doorOpen := false, boxAbsent := lines.boxAbsent, closedAt := some ret.clock.time }
  agrees : lines.doorOpen = ret.door.doorOpen → r.door = { ret.door with boxAbsent := lines.boxAbsent }

theorem startedItems : StartedItems ret lines (ret.started lines) := by
  have doorB := boxCompared_prepared_door ret lines.boxAbsent
  have clockB := boxCompared_prepared_clock ret lines.boxAbsent
  have door : (ret.started lines).door = (ret.prepared.boxCompared lines.boxAbsent).doorCompared lines.doorOpen := rfl
  have box : (ret.started lines).box = (ret.prepared.boxCompared lines.boxAbsent).box := rfl
  have last : (ret.started lines).lastCollection = (ret.prepared.boxCompared lines.boxAbsent).lastCollection := rfl
  have round : (ret.started lines).round = (ret.prepared.boxCompared lines.boxAbsent).round := rfl
  obtain ⟨_, _, _, _, kept⟩ := started_eq ret lines
  constructor
  case items => rw [kept]; exact ⟨rfl, rfl, rfl, rfl⟩
  case active => rw [kept]
  case awaiting => rw [kept]
  case found =>
    intro absent held
    rw [absent, boxCompared_of_found _ (by rw [prepared_door]; exact held)] at box last round
    refine ⟨last.trans ?_, box.trans ?_, round.trans ?_⟩
    · simp only [Retained.collected, prepared_box, prepared_clock, prepared_round]
    · simp only [Retained.collected, prepared_box]
    · simp only [Retained.collected, prepared_box, prepared_clock, prepared_round]
  case uncollected =>
    intro stands
    rw [boxCompared_of_uncollected _ (by rw [prepared_door]; exact stands)] at box last round
    exact ⟨box.trans (prepared_box _), last.trans (prepared_lastCollection _), round.trans (prepared_round _)⟩
  case opened =>
    intro isOpen held
    rw [isOpen, doorCompared_of_opened (by rw [doorB]; exact held), doorB, clockB] at door
    exact door
  case closed =>
    intro shut held
    rw [shut, doorCompared_of_closed (by rw [doorB]; exact held), doorB, clockB] at door
    exact door
  case agrees =>
    intro same
    rw [doorCompared_of_same (by rw [doorB]; exact same), doorB] at door
    exact door

end Items

/-! ### The start's events -/

/-- R170: the state after a start's conditions and events, from its values v. -/
structure EventsTaken (v t : State) (lost : Bool) : Prop where
  frame : ∃ table made notices service,
    t = (((v.setRet (v.ret.started v.supply)).setCash { CashBlock.initial with
      doorTimer := if v.supply.doorOpen then some 600 else none }).told table made notices).setFaults
        { v.faults with table := table, made := made, service := service }
  events : StartEvents v.ret v.supply t
  lost : t.faultActive .retainedLost = lost

theorem hostKind_code {n : Nat} {k : FaultKind} (host : hostKind n = some k) : faultCode k < 8 := by
  have codes : ∀ n : Fin 8, (allFaultKinds[n.val]?).all (fun k => decide (faultCode k < 8)) = true := by decide
  unfold hostKind at host
  split at host
  next small =>
    have code := codes ⟨n, small⟩
    rw [host] at code
    simpa using code
  · cases host

/-- R136: what the comparison of the lines leaves, from the values v of a start and the state a in which it finds them. -/
structure LinesCompared (v a t : State) : Prop where
  quiet : Quiet ((v.setRet (v.ret.started v.supply)).setCash
    { CashBlock.initial with doorTimer := if v.supply.doorOpen then some 600 else none }) t
  table : t.faults.table.length = 22
  active : ∀ k, k ≠ .forcedDoor → k ≠ .doorOpenLong → t.faultActive k = a.faultActive k
  openLong : t.faultActive .doorOpenLong = false
  forced : t.faultActive .forcedDoor = t.ret.door.forcedOutstanding ∧ (t.ret.door.forcedOutstanding = true →
    (t.faultEntry .forcedDoor).detail = t.ret.door.openings % 65536 ∧
      (t.faultEntry .forcedDoor).raisedAt = some v.ret.clock.time)
  kept : ∀ n : NoticeBody, n.OfStart → a.Noticed n → t.Noticed n
  doorTold : v.supply.doorOpen ≠ v.ret.door.doorOpen →
    t.Noticed (.door (if v.supply.doorOpen then .opening else .closing) t.ret.door none)
  boxTold : v.supply.doorOpen = v.ret.door.doorOpen → v.supply.boxAbsent ≠ v.ret.door.boxAbsent →
    t.Noticed (.door (if v.supply.boxAbsent then .removal else .insertion) t.ret.door
      (if v.supply.boxAbsent then t.ret.lastCollection else none))

theorem linesCompared {v a : State} (values : InitialBlocks v) (prepared : Prepared v a) :
    LinesCompared v a a.compareBox.compareDoor := by
  have silent : v.Silent := ⟨values.running, by rw [values.chan]; rfl⟩
  have silentA : a.Silent := prepared.quiet.silent silent
  have retA : a.ret = v.ret.prepared := prepared.quiet.ret
  have supplyA : a.supply = v.supply := prepared.quiet.supply
  have box := boxStage silentA (prepared.quiet.cash.trans values.cash)
  generalize a.compareBox = b at box
  obtain ⟨quietB, entriesB, tableB, keptB, toldB⟩ := box
  rw [supplyA, retA] at quietB toldB
  have retB : b.ret = v.ret.prepared.boxCompared v.supply.boxAbsent := quietB.ret
  have supplyB : b.supply = v.supply := quietB.supply.trans supplyA
  have lengthB : b.faults.table.length = 22 := tableB.trans prepared.table
  have door := doorStage (quietB.silent silentA) (quietB.cash.trans (prepared.quiet.cash.trans values.cash))
  generalize b.compareDoor = c at door
  obtain ⟨quietC, entriesC, tableC, openLongC, forcedC, unforcedC, keptC, toldC, standsC⟩ := door
  rw [supplyB, retB] at quietC toldC forcedC unforcedC standsC
  have quiet : Quiet ((v.setRet (v.ret.started v.supply)).setCash
      { CashBlock.initial with doorTimer := if v.supply.doorOpen then some 600 else none }) c := by
    have first : Quiet (v.setRet (v.ret.prepared.boxCompared v.supply.boxAbsent)) b :=
      (prepared.quiet.setRet (v.ret.prepared.boxCompared v.supply.boxAbsent)).trans quietB
    have written := (first.setRet (v.ret.started v.supply)).setCash
      { CashBlock.initial with doorTimer := if v.supply.doorOpen then some 600 else none }
    rw [State.setDoor, retB] at quietC
    exact written.trans quietC
  have doorB := boxCompared_prepared_door v.ret v.supply.boxAbsent
  have doorC : c.ret.door = (v.ret.prepared.boxCompared v.supply.boxAbsent).doorCompared v.supply.doorOpen :=
    congrArg Retained.door quiet.ret
  constructor
  case quiet => exact quiet
  case table => exact tableC.trans lengthB
  case active => exact fun k forced long => (entriesC k forced long).active.trans (entriesB k).active
  case openLong =>
    exact openLongC ((entriesB _).active.trans (prepared.others _ (by decide) (by decide) (by decide) (by decide)))
  case forced =>
    by_cases opened : v.supply.doorOpen = true ∧ v.ret.door.doorOpen = false
    · obtain ⟨isOpen, held⟩ := opened
      have heldB : (v.ret.prepared.boxCompared v.supply.boxAbsent).door.doorOpen = false := by rw [doorB]; exact held
      have raised := forcedC isOpen heldB lengthB
      rw [doorC, isOpen, doorCompared_of_opened heldB]
      exact ⟨raised.active rfl, fun _ => ⟨raised.detail,
        raised.raisedAt.trans (by rw [retB, boxCompared_prepared_clock])⟩⟩
    · have unforced : v.supply.doorOpen = true → (v.ret.prepared.boxCompared v.supply.boxAbsent).door.doorOpen = true := by
        rw [doorB]
        intro isOpen
        by_contra closed
        exact opened ⟨isOpen, by simpa using closed⟩
      have same : SameEntry .forcedDoor a c := (unforcedC unforced).trans (entriesB .forcedDoor)
      obtain ⟨flag, openings⟩ := doorCompared_unforced unforced
      rw [doorC, flag, openings, doorB]
      refine ⟨same.active.trans prepared.forced, fun flagged => ?_⟩
      obtain ⟨detail, raisedAt⟩ := prepared.forcedDetail flagged
      exact ⟨(congrArg FaultEntry.detail same : _).trans detail, (congrArg FaultEntry.raisedAt same : _).trans raisedAt⟩
  case kept => exact fun n of noticed => keptC n of (keptB n of noticed)
  case doorTold =>
    intro differs
    rw [doorC]
    exact toldC (by rw [doorB]; exact differs)
  case boxTold =>
    intro same differs
    have told := standsC (by rw [doorB]; exact same) _ (toldB (by rw [prepared_door]; exact differs))
    have latched : c.ret.lastCollection = (v.ret.prepared.boxCompared v.supply.boxAbsent).lastCollection :=
      (congrArg Retained.lastCollection quiet.ret : _)
    rw [doorC, doorCompared_of_same (by rw [doorB]; exact same), latched]
    exact told

/-- R170: the conditions and events of a start, taken from its values v. -/
theorem eventsTaken {v : State} (values : InitialBlocks v) (lost : Bool) : EventsTaken v (v.startEvents lost) lost := by
  have prepared := prepared_events values
  have taken : v.startEvents lost =
      (((((v.raiseUnready.activateDue false).expireRound).raiseForced).compareBox.compareDoor).raiseWhen lost
        .retainedLost 0).deriveQuietly := rfl
  generalize ((v.raiseUnready.activateDue false).expireRound).raiseForced = a at prepared taken
  have lines := linesCompared values prepared
  generalize a.compareBox.compareDoor = c at lines taken
  have silent : v.Silent := ⟨values.running, by rw [values.chan]; rfl⟩
  let d := c.raiseWhen lost .retainedLost 0
  have quiet := lines.quiet.trans (quiet_raiseWhen (p := lost) (k := .retainedLost) (d := 0) (lines.quiet.silent silent))
  have ret : d.ret = v.ret.started v.supply := quiet.ret
  have retC : c.ret = d.ret := lines.quiet.ret.trans quiet.ret.symm
  have entry (k : FaultKind) (lostKind : k ≠ .retainedLost) : SameEntry k c d := raiseWhen_entry_other lostKind
  have active (k : FaultKind) (forced : k ≠ .forcedDoor) (long : k ≠ .doorOpenLong) (lostKind : k ≠ .retainedLost) :
      d.faultActive k = a.faultActive k := (entry k lostKind).active.trans (lines.active k forced long)
  have told {n : NoticeBody} (of : n.kind ≠ .faultInbox ∧ n.kind ≠ .serviceChanged) (noticed : c.Noticed n) : d.Noticed n :=
    (noticed_raiseWhen of).2 noticed
  have toldA {n : NoticeBody} (of : n.OfStart) (noticed : a.Noticed n) : d.Noticed n := told of.other.2
      (lines.kept n of noticed)
  rw [taken]
  refine ⟨?frame, ?events, ?flag⟩
  case frame =>
    obtain ⟨table, made, notices, eq⟩ := quiet
    refine ⟨table, made, notices, d.derivedService, ?_⟩
    show d.setFaults { d.faults with service := d.derivedService } = _
    rw [show d = _ from eq]
    rfl
  case flag =>
    exact raiseWhen_active lines.table rfl ((lines.active _ (by decide) (by decide)).trans
      (prepared.others _ (by decide) (by decide) (by decide) (by decide)))
  case events =>
    have kept := startedItems v.ret v.supply
    rw [← ret] at kept
    show StartEvents v.ret v.supply (d.setFaults { d.faults with service := d.derivedService })
    constructor
    case items => exact kept.items
    case activated =>
      intro x awaiting due
      have now := activated_of_due awaiting due
      exact ⟨kept.active.trans (congrArg Retained.active now), kept.awaiting.trans (congrArg Retained.awaiting now),
        toldA (.inl rfl) (prepared.switched x awaiting due)⟩
    case standing =>
      intro early
      have now := activated_of_not_due early
      exact ⟨kept.active.trans (congrArg Retained.active now), kept.awaiting.trans (congrArg Retained.awaiting now)⟩
    case unready =>
      exact ⟨(active _ (by decide) (by decide) (by decide)).trans (prepared.noTariff.trans
          (congrArg Option.isNone kept.active.symm)),
        (active _ (by decide) (by decide) (by decide)).trans prepared.timeUnset⟩
    case cleared =>
      have other (k : FaultKind) (unset : k ≠ .timeUnset) (noTariff : k ≠ .noTariff) (behind : k ≠ .tariffBehind)
          (forced : k ≠ .forcedDoor) (long : k ≠ .doorOpenLong) (lostKind : k ≠ .retainedLost) : d.faultActive k = false :=
        (active k forced long lostKind).trans (prepared.others k noTariff unset behind forced)
      refine ⟨(active _ (by decide) (by decide) (by decide)).trans prepared.behind,
        other _ (by decide) (by decide) (by decide) (by decide) (by decide) (by decide),
        (entry .doorOpenLong (by decide)).active.trans lines.openLong, fun n k host => ?_⟩
      have code := hostKind_code host
      refine other k ?_ ?_ ?_ ?_ ?_ ?_ <;> rintro rfl <;> exact absurd code (by decide)
    case expired => exact fun r round isOpen past => toldA (.inr rfl) (prepared.expired r round isOpen past)
    case boxFoundAbsent => exact kept.found
    case boxUncollected => exact kept.uncollected
    case doorFoundOpen => exact kept.opened
    case doorFoundClosed => exact kept.closed
    case doorAgrees => exact kept.agrees
    case doorNoticed =>
      intro _ differs
      have noticed := told (by simp [NoticeBody.kind]) (lines.doorTold differs)
      rw [retC] at noticed
      exact noticed
    case boxNoticed =>
      intro same differs
      have noticed := told (by simp [NoticeBody.kind]) (lines.boxTold same differs)
      rw [retC] at noticed
      exact noticed
    case cash => exact quiet.cash
    case forced =>
      have flagged := lines.forced
      rw [retC] at flagged
      have same := entry .forcedDoor (by decide)
      exact ⟨same.active.trans flagged.1, fun outstanding => ⟨(congrArg FaultEntry.detail same :
          _).trans (flagged.2 outstanding).1,
        (congrArg FaultEntry.raisedAt same : _).trans (flagged.2 outstanding).2⟩⟩
    case service => exact deriveQuietly_derived _

end Sys2Proof.Machine

/-! PROOF. Warm starts (O9), power-up and the loss of main power (O10). -/

namespace Sys2Proof.Machine

/-! ### A start taken -/

section Start
variable (s : State) (reason : StartReason) (ret : Retained) (lost : Bool)

theorem startEvents_taken :
    EventsTaken (s.startValues reason ret) ((s.startValues reason ret).startEvents lost) lost :=
  eventsTaken (initialBlocks_startValues s reason ret) lost

/-- R170: a start leaves the working state initial, the retained items as started, and the marker VALID. -/
theorem restarted_startEvents :
    Restarted ((s.startValues reason ret).startEvents lost) reason ∧
      ((s.startValues reason ret).startEvents lost).ret = ret.started (s.startValues reason ret).supply ∧
      ((s.startValues reason ret).startEvents lost).supply = { s.supply with power := true, marker := .valid } := by
  obtain ⟨table, made, notices, service, eq⟩ := (startEvents_taken s reason ret lost).frame
  rw [eq]
  exact ⟨⟨rfl, rfl, rfl, rfl, rfl, rfl, rfl, rfl, rfl, rfl, rfl, rfl, rfl, rfl, rfl, rfl⟩, rfl, rfl⟩

end Start

theorem started_seq (ret : Retained) (lines : Supply) : (ret.started lines).seq = ret.seq := by
  obtain ⟨_, _, _, _, eq⟩ := started_eq ret lines
  rw [eq]

/-- The events of a start depend on the DOOR and BOX lines alone, and not on the sequence counter. -/
theorem StartEvents.of_lines {ret : Retained} {lines : Supply} {t : State} (seq : Nat) (power held : Bool) (marker : Marker)
    (h : StartEvents { ret with seq := seq } { lines with power := power, marker := marker, resetHeld := held } t) :
    StartEvents ret lines t :=
  ⟨h.items, h.activated, h.standing, h.unready, h.cleared, h.expired, h.boxFoundAbsent, h.boxUncollected, h.doorFoundOpen,
    h.doorFoundClosed, h.doorAgrees, h.doorNoticed, h.boxNoticed, h.cash, h.forced, h.service⟩

/-- R170: the events of a start, told of the retained items and of the lines that it found. -/
theorem startEvents_events {s : State} {ret found : Retained} {lines : Supply} {seq : Nat} {held : Bool} (reason :
    StartReason)
    (lost : Bool) (retEq : found = { ret with seq := seq }) (linesEq : s.supply = { lines with resetHeld := held }) :
    StartEvents ret lines ((s.startValues reason found).startEvents lost) := by
  have events : StartEvents found { s.supply with power := true, marker := .valid }
    ((s.startValues reason found).startEvents lost) := (startEvents_taken s reason found lost).events
  generalize (s.startValues reason found).startEvents lost = t at events
  rw [retEq, linesEq] at events
  exact events.of_lines seq true held .valid

theorem StartEvents.settle {ret : Retained} {lines : Supply} {t : State} (h : StartEvents ret lines t) :
    StartEvents ret lines t.settle where
  items := h.items
  activated x awaiting due := by
    obtain ⟨active, none, noticed⟩ := h.activated x awaiting due
    exact ⟨active, none, noticed_settle.2 noticed⟩
  standing := h.standing
  unready := h.unready
  cleared := h.cleared
  expired r round isOpen past := noticed_settle.2 (h.expired r round isOpen past)
  boxFoundAbsent := h.boxFoundAbsent
  boxUncollected := h.boxUncollected
  doorFoundOpen := h.doorFoundOpen
  doorFoundClosed := h.doorFoundClosed
  doorAgrees := h.doorAgrees
  doorNoticed same differs := noticed_settle.2 (h.doorNoticed same differs)
  boxNoticed same differs := noticed_settle.2 (h.boxNoticed same differs)
  cash := h.cash
  forced := h.forced
  service := h.service

theorem placeNotice_reason (l : MachineLink) : l.placeNotice.reason = l.reason := by
  unfold MachineLink.placeNotice
  split <;> rfl

theorem settle_link_eq (t : State) : t.settle.link = t.link ∨ t.settle.link = t.link.settle := by
  rw [State.settle, setLink_link]
  split
  · exact .inr rfl
  · exact .inl rfl

/-- R164: with no response waiting, the end of a step fills the outbound mailbox with a notice at most. -/
theorem settle_of_no_response {l : MachineLink} (waiting : l.waiting = none) : l.settle = l ∨ l.settle = l.placeNotice := by
  unfold MachineLink.settle
  split
  · exact .inl rfl
  · rw [waiting]
    exact .inr rfl

theorem placeNotice_inbound (l : MachineLink) : l.placeNotice.inbound = l.inbound := by
  unfold MachineLink.placeNotice
  split <;> rfl

theorem placeResponse_inbound {l : MachineLink} (empty : l.inbound = none) : l.placeResponse.inbound = none := by
  unfold MachineLink.placeResponse
  split
  · exact empty
  · rfl

/-- R163, R164: the end of a step puts nothing into an empty inbound mailbox. -/
theorem settle_keeps_empty {t : State} (empty : t.link.inbound = none) : t.settle.link.inbound = none := by
  have placed := placeResponse_inbound empty
  have noticed : t.link.placeNotice.inbound = none := (placeNotice_inbound _).trans empty
  have filled : t.link.settle.inbound = none := by
    unfold MachineLink.settle
    split_ifs
    · exact empty
    · exact placed
    · exact noticed
    · exact placed
    · exact noticed
  obtain e | e := settle_link_eq t
  · rw [e, empty]
  · rw [e, filled]

theorem Restarted.settle {t : State} {reason : StartReason} (h : Restarted t reason) : Restarted t.settle reason := by
  have kept : t.settle.link.reason = t.link.reason ∧
      t.settle.link.inbound = t.link.inbound ∧ t.settle.link.waiting = t.link.waiting ∧
      t.settle.link.overrun = t.link.overrun := by
    obtain e | e := settle_link_eq t
    · rw [e]
      exact ⟨rfl, rfl, rfl, rfl⟩
    · obtain ⟨inbound, overrun, waiting⟩ := settle_keeps_request (.inl h.waiting)
      rw [e]
      refine ⟨?_, inbound, waiting, overrun⟩
      obtain e | e := settle_of_no_response h.waiting
      · rw [e]
      · rw [e, placeNotice_reason]
  obtain ⟨reason', inbound, waiting, overrun⟩ := kept
  exact ⟨(settle_running t).trans h.running, reason'.trans h.reason, inbound.trans h.inbound, waiting.trans h.waiting,
    overrun.trans h.overrun, h.queue, h.phase, h.neighbours, h.distance, h.staging, h.walk, h.stay, h.permits, h.auth,
    h.liveness, h.inbox⟩

/-! ### RESTART and the reset line -/

/-- R153: a request arrival changes of the retained items, the lines and the inbound mailbox the sequence counter alone. -/
theorem arrival_keeps (s : State) : s.arrival.ret = { s.ret with seq := s.arrival.ret.seq } ∧ s.arrival.supply = s.supply ∧
    s.arrival.link.inbound = s.link.inbound := by
  unfold State.arrival
  split
  · exact ⟨rfl, rfl, rfl⟩
  next r running =>
    dsimp only
    split
    · have same := sameBut_clear (s.startLiveness r.config.liveness) .hostSilent
      obtain ⟨ns, link⟩ := same.link
      exact ⟨same.ret_eq, same.supply, by rw [link]; rfl⟩
    · exact ⟨rfl, rfl, rfl⟩

theorem writeFrame_of_restart {s : State} (released : s.supply.resetHeld = false) (empty : s.link.inbound = none) :
    s.writeFrame (soundFrame .restart) = s.arrival.warmStart .request := by
  have held : s.arrival.link.inbound = none := (arrival_keeps s).2.2.trans empty
  have good : goodRestart (soundFrame .restart) = true := rfl
  simp [State.writeFrame, released, held, good]

/-- Settles O9. -/
theorem warmStartsTaken : Obligations.WarmStartsTaken := by
  refine ⟨fun s power released empty => ?restart, fun s power released => ?line, fun s power held => ?release⟩
  case restart =>
    obtain ⟨ret, supply, -⟩ := arrival_keeps s
    generalize seq : s.arrival.ret.seq = q at ret
    obtain ⟨restarted, -, lines⟩ := restarted_startEvents s.arrival .request s.arrival.ret false
    have step : exec .restart s = .next (s.arrival.warmStart .request).settle := by
      rw [← writeFrame_of_restart released empty]
      exact exec_commandOf_of_power power .restart
    have taken : StartEvents s.ret s.supply (s.arrival.warmStart .request).settle :=
      (startEvents_events (held := s.supply.resetHeld) .request false ret supply).settle
    obtain ⟨clock, ticket, blockList, snapshot⟩ := taken.items
    refine ⟨_, step, restarted.settle, ?_, clock, ticket, blockList, snapshot, congrArg Supply.marker lines, taken⟩
    rw [supply] at lines
    have ends : (s.arrival.warmStart .request).supply = { s.supply with power := true, marker := .valid } := lines
    have empty : (s.arrival.warmStart .request).settle.link.inbound = none := restarted.settle.inbound
    simp [State.ready, ends, released, empty]
  case line =>
    let v := s.setSupply { s.supply with resetHeld := true }
    obtain ⟨restarted, ret, lines⟩ := restarted_startEvents v .line s.ret false
    have step : exec .resetLine s = .next (v.warmStart .line).settle := by
      simp [exec, execResetLine, State.assertReset, released, power, v]
    have taken : StartEvents s.ret s.supply (v.warmStart .line).settle :=
      (startEvents_events (seq := s.ret.seq) (held := true) .line false rfl rfl).settle
    obtain ⟨clock, ticket, blockList, snapshot⟩ := taken.items
    have held : (v.warmStart .line).supply.resetHeld = true := congrArg Supply.resetHeld lines
    refine ⟨_, step, restarted.settle, held, ?_, ?_, clock, ticket, ?_, blockList, snapshot, taken⟩
    · simp [State.ready, held]
    · simp [State.attn, held]
    · exact (congrArg Retained.seq ret).trans (started_seq _ _)
  case release =>
    refine ⟨_, rfl, rfl, rfl, rfl, rfl, rfl, rfl, rfl, rfl, fun empty => ?_⟩
    have still : s.releaseReset.settle.link.inbound = none := settle_keeps_empty (t := s.releaseReset) empty
    have supply : s.releaseReset.settle.supply = { s.supply with resetHeld := false } := rfl
    rw [State.ready, supply, still, power]
    rfl

/-! ### Main power -/

/-- R171: what a cold start leaves of the retained items, from the lines. -/
theorem started_initial (lines : Supply) :
    (Retained.initial.started lines).active = none ∧ (Retained.initial.started lines).awaiting = none ∧
      (Retained.initial.started lines).seq = 0 ∧ (Retained.initial.started lines).round = none ∧
      (Retained.initial.started lines).box = BoxCounters.zero [] ∧
      (lines.doorOpen = false → lines.boxAbsent = false → Retained.initial.started lines = Retained.initial) := by
  have kept := startedItems Retained.initial lines
  have box : (Retained.initial.started lines).round = none ∧ (Retained.initial.started lines).box = BoxCounters.zero [] := by
    cases absent : lines.boxAbsent with
    | true =>
      obtain ⟨-, box, round⟩ := kept.found absent rfl
      exact ⟨round, box⟩
    | false =>
      obtain ⟨box, -, round⟩ := kept.uncollected (.inl absent)
      exact ⟨round, box⟩
  refine ⟨kept.active, kept.awaiting, started_seq _ _, box.1, box.2, fun shut present => ?_⟩
  rw [Retained.started, shut, present]
  rfl

theorem exec_powerUp {s : State} (off : s.supply.power = false) (outage : Nat) (spoiled : Bool) :
    (s.supply.reading spoiled = .valid →
      exec (.powerUp outage spoiled) s = .next ((s.backupCount outage).warmStart .power).settle) ∧
    (s.supply.reading spoiled ≠ .valid →
      exec (.powerUp outage spoiled) s = .next (s.coldStart (s.supply.reading spoiled = .broken)).settle) := by
  cases read : s.supply.reading spoiled <;> simp [exec, execPowerUp, State.powerUp, off, read]

/-- Settles O10. -/
theorem mainPowerAndMarker : Obligations.MainPowerAndMarker := by
  refine ⟨fun s outage spoiled off => ?up, fun s power => ?loss, fun s off => ?count⟩
  case up =>
    obtain ⟨warm, cold⟩ := exec_powerUp off outage spoiled
    by_cases valid : s.supply.reading spoiled = .valid
    · let v := s.backupCount outage
      obtain ⟨restarted, ret, lines⟩ := restarted_startEvents v .power v.ret false
      have taken : StartEvents v.ret s.supply (v.warmStart .power).settle :=
        (startEvents_events (seq := v.ret.seq) (held := s.supply.resetHeld) .power false rfl rfl).settle
      obtain ⟨clock, ticket, blockList, snapshot⟩ := taken.items
      refine ⟨_, warm valid, congrArg Supply.power lines, congrArg Supply.marker lines, fun _ => ?_,
          fun lost => absurd valid lost⟩
      refine ⟨restarted.settle, clock, ticket, (congrArg Retained.seq ret).trans (started_seq _ _), blockList, snapshot, ?_⟩
      have same : { s.ret with clock := (v.warmStart .power).settle.ret.clock } = v.ret := by
        rw [clock]
        rfl
      exact same ▸ taken
    · obtain ⟨restarted, ret, lines⟩ := restarted_startEvents s .cold Retained.initial (s.supply.reading spoiled = .broken)
      have taken : StartEvents Retained.initial s.supply (s.coldStart (s.supply.reading spoiled = .broken)).settle :=
        (startEvents_events (seq := 0) (held := s.supply.resetHeld) .cold _ rfl rfl).settle
      have flag := (startEvents_taken s .cold Retained.initial (s.supply.reading spoiled = .broken)).lost
      obtain ⟨clock, ticket, blockList, snapshot⟩ := taken.items
      obtain ⟨active, awaiting, seq, round, box, agrees⟩ := started_initial (s.startValues .cold Retained.initial).supply
      rw [← ret] at active awaiting seq round box agrees
      refine ⟨_, cold valid, congrArg Supply.power lines, congrArg Supply.marker lines, fun reads => absurd reads valid,
          fun _ => ?_⟩
      refine ⟨restarted.settle, clock, active, awaiting, ticket, seq, snapshot, round, blockList, box, agrees, taken,
        taken.unready.2, taken.unready.1.trans (congrArg Option.isNone active), ?_⟩
      exact (Bool.eq_iff_iff.1 flag).trans decide_eq_true_iff
  case loss =>
    refine ⟨{ s.startValues s.link.reason s.ret with supply := { s.supply with power := false } }, ?_, rfl, rfl, rfl,
        rfl, rfl,
      rfl, rfl⟩
    simp [exec, execMainPowerLoss, State.powerLoss, power]
  case count => simp [exec, execSecondCount, off, State.backupCount, State.now]

end Sys2Proof.Machine

/-! PROOF. Bytes read back as they were written: the carried stay record (O55). -/

namespace Sys2Proof.Machine

/-! ### Fields read -/

/-- R173: a quantity that fits its bytes is read from the field that begins where they do. -/
theorem field_written {k n : Nat} (rest : List Byte) (fits : n < 256 ^ k) : field (toBytes k n ++ rest) 0 k = n := by
  rw [field, List.drop_zero, List.take_left' (length_toBytes k n), bigEndian_toBytes fits]

/-- R173: a field beyond the first quantity is read from the bytes after it. -/
theorem field_beyond {j k offset : Nat} (n : Nat) (rest : List Byte) (past : j ≤ offset) :
    field (toBytes j n ++ rest) offset k = field rest (offset - j) k := by
  have none : (toBytes j n).drop offset = [] := List.drop_eq_nil_of_le (by rw [length_toBytes]; exact past)
  rw [field, field, List.drop_append, none, List.nil_append, length_toBytes]

theorem bitOf_le (w : Nat) (b : Bool) : bitOf w b ≤ w := by cases b <;> simp [bitOf]

/-! ### The carried stay record -/

/-- 10.3: the first byte's parts. -/
theorem first_parts (origin : Nat) (day marked : Bool) :
    (origin * 8 + bitOf 4 day + bitOf 2 marked) / 8 = origin ∧
      hasBit (origin * 8 + bitOf 4 day + bitOf 2 marked) 4 = day ∧
      hasBit (origin * 8 + bitOf 4 day + bitOf 2 marked) 2 = marked := by
  cases day <;> cases marked <;> simp [hasBit, bitOf] <;> omega

theorem permitClassOfBits_code (c : PermitClass) : permitClassOfBits (permitClassCode c) = c := by cases c <;> rfl

theorem permitClassCode_lt (c : PermitClass) : permitClassCode c < 4 := by cases c <;> decide

theorem permit_code_lt (permit : Option PermitMark) : (permit.map fun p => permitClassCode p.cls * 2).getD 0 < 8 := by
  cases permit with
  | none => decide
  | some p => exact Nat.mul_lt_mul_of_pos_right (permitClassCode_lt p.cls) (by decide)

theorem length_recordBytes (r : StayRecord) : (recordBytes r).length = 48 := by simp [recordBytes]

/-- 10.3: the fields of the 48 bytes of a record, each as it was written where it fits. -/
structure RecordFields (r : StayRecord) (bs : List Byte) : Prop where
  first : field bs 0 1 = r.id.origin * 8 + bitOf 4 (decide (r.kind = .visitorDay)) + bitOf 2 r.permit.isSome
  number : field bs 1 3 = r.id.number
  start : field bs 4 4 = r.id.start
  key : field bs 8 4 = r.key
  expiry : field bs 12 4 = r.expiry
  expiryDay : field bs 16 2 = r.expiryDay
  minutes : field bs 18 2 = r.minutes * 32 + r.extensions * 2
  dayMinutes : field bs 20 2 = r.dayMinutes * 32
  dayAccrual : field bs 22 4 = r.dayAccrual
  dayGross : field bs 26 2 = r.dayGross
  grossTotal : field bs 28 4 = r.grossTotal
  paidTotal : field bs 32 4 = r.paidTotal
  tariffId : field bs 36 2 = r.tariff.id
  version : field bs 38 2 = r.tariff.version
  limits : field bs 40 3 = r.maxStay * 8192 + r.noReturn * 4
  last : field bs 43 1 = r.lastBy.getD 0 * 8 + (r.permit.map fun p => permitClassCode p.cls * 2).getD 0
  serial : field bs 44 4 = (r.permit.map PermitMark.serial).getD 0

theorem recordFields {r : StayRecord} (wf : wfRecord r = true) : RecordFields r (recordBytes r) := by
  simp only [wfRecord, wfTariff, fitsBits, fitsWord, fitsLong, wordSpan, longSpan, Bool.and_eq_true, decide_eq_true_eq] at wf
  obtain ⟨⟨⟨⟨⟨⟨⟨⟨⟨⟨⟨⟨⟨⟨⟨⟨⟨⟨origin, number⟩, start⟩, key⟩, expiry⟩, expiryDay⟩, minutes⟩, extensions⟩, dayMinutes⟩,
      dayAccrual⟩,
    dayGross⟩, grossTotal⟩, paidTotal⟩, tariff⟩, maxStay⟩, noReturn⟩, lastBy⟩, extended⟩, permit⟩ := wf
  obtain ⟨tariffId, version⟩ := tariff
  have day := bitOf_le 4 (decide (r.kind = .visitorDay))
  have marked := bitOf_le 2 r.permit.isSome
  have last : r.lastBy.getD 0 < 2 ^ 5 := by
    cases held : r.lastBy with
    | none => decide
    | some station => simpa [held, fitsBits] using lastBy
  have code := permit_code_lt r.permit
  have serial : (r.permit.map PermitMark.serial).getD 0 < 4294967296 := by
    cases held : r.permit with
    | none => decide
    | some p => simpa [held] using permit
  constructor
  all_goals simp (disch := omega) only [recordBytes, List.flatten_cons, field_beyond, field_written, Nat.reduceSub]

/-- 10.3: what the record's fields that share bytes need of their widths. -/
theorem wfRecord_parts {r : StayRecord} (wf : wfRecord r = true) :
    r.extensions < 16 ∧ r.noReturn < 2048 ∧ (r.lastBy.isSome ↔ r.extensions ≠ 0) := by
  simp only [wfRecord, fitsBits, Bool.and_eq_true, decide_eq_true_eq] at wf
  obtain ⟨⟨⟨⟨⟨⟨⟨⟨⟨⟨⟨⟨-, extensions⟩, -⟩, -⟩, -⟩, -⟩, -⟩, -⟩, -⟩, noReturn⟩, -⟩, extended⟩, -⟩ := wf
  exact ⟨extensions, noReturn, extended⟩

/-- 10.3: the record's optional parts, read from its flags and counts. -/
theorem lastBy_read {lastBy : Option Nat} {extensions code : Nat} (extended : lastBy.isSome ↔ extensions ≠ 0) (fits :
    code < 8) :
    (if extensions = 0 then none else some ((lastBy.getD 0 * 8 + code) / 8)) = lastBy := by
  cases lastBy with
  | none =>
    have zero : extensions = 0 := by simpa using extended
    rw [if_pos zero]
  | some station =>
    have counted : extensions ≠ 0 := extended.1 rfl
    rw [if_neg counted, Option.getD_some]
    congr 1
    omega

theorem permit_read (permit : Option PermitMark) (station : Nat) :
    (if permit.isSome then
      some
        { cls := permitClassOfBits
            ((station * 8 + (permit.map fun p => permitClassCode p.cls * 2).getD 0) / 2)
          serial := (permit.map PermitMark.serial).getD 0 }
    else none) = permit := by
  cases permit with
  | none => rfl
  | some p =>
    have code : permitClassOfBits ((station * 8 + permitClassCode p.cls * 2) / 2) = p.cls := by
      have parts : (station * 8 + permitClassCode p.cls * 2) / 2 = permitClassCode p.cls + 4 * station := by omega
      rw [parts, permitClassOfBits, Nat.add_mul_mod_self_left]
      exact permitClassOfBits_code p.cls
    simp [code]

theorem readRecord_recordBytes {r : StayRecord} (wf : wfRecord r = true) : readRecord (recordBytes r) = r := by
  obtain ⟨first, number, start, key, expiry, expiryDay, minutes, dayMinutes, dayAccrual, dayGross, grossTotal, paidTotal,
      tariffId,
    version, limits, last, serial⟩ := recordFields wf
  obtain ⟨small, bits, extended⟩ := wfRecord_parts wf
  obtain ⟨origin, day, marked⟩ := first_parts r.id.origin (decide (r.kind = .visitorDay)) r.permit.isSome
  have count : (r.minutes * 32 + r.extensions * 2) / 2 % 16 = r.extensions := by omega
  have kind : (if decide (r.kind = .visitorDay) = true then StayKind.visitorDay else .paid) = r.kind := by
    cases r.kind <;> rfl
  have whole : (r.minutes * 32 + r.extensions * 2) / 32 = r.minutes ∧ r.dayMinutes * 32 / 32 = r.dayMinutes ∧
      (r.maxStay * 8192 + r.noReturn * 4) / 8192 = r.maxStay ∧
      (r.maxStay * 8192 + r.noReturn * 4) / 4 % 2048 = r.noReturn := by omega
  obtain ⟨wholeMinutes, wholeDay, maxStay, noReturn⟩ := whole
  have lastBy := lastBy_read extended (code := (r.permit.map fun p => permitClassCode p.cls * 2).getD 0)
      (permit_code_lt r.permit)
  have permit := permit_read r.permit (r.lastBy.getD 0)
  simp only [readRecord, first, number, start, key, expiry, expiryDay, minutes, dayMinutes, dayAccrual, dayGross, grossTotal,
    paidTotal, tariffId, version, limits, last, serial, origin, day, marked, count, kind, wholeMinutes, wholeDay, maxStay,
    noReturn, lastBy, permit]

/-- Settles O55. -/
theorem carriedRecordReadsBack : Obligations.CarriedRecordReadsBack :=
  fun r wf => ⟨length_recordBytes r, readRecord_recordBytes wf⟩

end Sys2Proof.Machine

/-! PROOF. CLAIM and ROUND frames read back as they were sent (O54). -/

namespace Sys2Proof.Machine

/-! ### The header -/

/-- 10.1: the byte pair of the zone, the hop count and the flags. -/
theorem zone_parts (zone : Nat) {hop : Nat} (relay timeSet : Bool) (fits : hop < 4) :
    (zone * 16 + hop * 4 + bitOf 2 relay + bitOf 1 timeSet) / 16 = zone ∧
      (zone * 16 + hop * 4 + bitOf 2 relay + bitOf 1 timeSet) / 4 % 4 = hop ∧
      hasBit (zone * 16 + hop * 4 + bitOf 2 relay + bitOf 1 timeSet) 2 = relay ∧
      hasBit (zone * 16 + hop * 4 + bitOf 2 relay + bitOf 1 timeSet) 1 = timeSet := by
  cases relay <;> cases timeSet <;> simp [hasBit, bitOf] <;> omega

theorem classCode_lt (c : FrameClass) : classCode c < 4 := by cases c <;> decide

theorem classOf_classCode (c : FrameClass) : classOf (classCode c) = c := by cases c <;> rfl

theorem kindCodes_lt (b : AirBody) : (kindCodes b).1 < 6 ∧ (kindCodes b).2 < 3 := by cases b <;> simp [kindCodes]

/-- 10.1: the byte of the kind, the sub-kind and the class. -/
theorem kind_parts (b : AirBody) (c : FrameClass) :
    ((kindCodes b).1 * 32 + (kindCodes b).2 * 8 + classCode c * 2) / 32 = (kindCodes b).1 ∧
      ((kindCodes b).1 * 32 + (kindCodes b).2 * 8 + classCode c * 2) / 8 % 4 = (kindCodes b).2 ∧
      classOf (((kindCodes b).1 * 32 + (kindCodes b).2 * 8 + classCode c * 2) / 2 % 4) = c := by
  have sub := (kindCodes_lt b).2
  have code := classCode_lt c
  have cls : ((kindCodes b).1 * 32 + (kindCodes b).2 * 8 + classCode c * 2) / 2 % 4 = classCode c := by omega
  rw [cls, classOf_classCode]
  exact ⟨by omega, by omega, rfl⟩

/-- 10.1: the fields of a frame's header, as they were written. -/
structure HeaderFields (f : AirFrame) (bs : List Byte) : Prop where
  first : field bs 0 2 = f.zone * 16 + f.hop * 4 + bitOf 2 f.relay + bitOf 1 f.timeSet
  sender : field bs 2 1 = f.sender * 8
  origin : field bs 3 1 = f.origin * 8
  seq : field bs 4 2 = f.seq
  kind : field bs 6 1 = (kindCodes f.body).1 * 32 + (kindCodes f.body).2 * 8 + classCode f.cls * 2
  epoch : field bs 7 1 = f.epoch
  time : field bs 8 4 = f.time
  length : field bs 12 1 = (bodyBytes f.body).length

theorem headerFields {f : AirFrame} (wf : wfHeader (heardHeader f) = true) : HeaderFields f (frameBytes f) := by
  simp only [wfHeader, fitsBits, fitsWord, fitsByte, fitsLong, byteSpan, wordSpan, longSpan, Bool.and_eq_true,
    decide_eq_true_eq] at wf
  simp only [heardHeader] at wf
  obtain ⟨⟨⟨⟨⟨⟨⟨⟨zone, sender⟩, origin⟩, seq⟩, hop⟩, epoch⟩, time⟩, length⟩, -⟩ := wf
  have relay := bitOf_le 2 f.relay
  have timeSet := bitOf_le 1 f.timeSet
  obtain ⟨kind, sub⟩ := kindCodes_lt f.body
  have code := classCode_lt f.cls
  constructor
  all_goals simp (disch := omega) only [frameBytes, withCheck, headerBytes, List.flatten_cons, List.append_assoc,
      field_beyond,
    field_written, Nat.reduceSub]

theorem length_frameBytes (f : AirFrame) : (frameBytes f).length = (bodyBytes f.body).length + 15 := by
  simp [frameBytes, headerBytes]
  omega

/-- 10.1: what the bytes of a frame sent are read as, before the body's kind. -/
structure FrameRead (f : AirFrame) : Prop where
  length : ¬ (frameBytes f).length ≠ field (frameBytes f) 12 1 + 15
  header : readHeader (frameBytes f) true = heardHeader f
  body : (beforeCheck (frameBytes f)).drop 13 = bodyBytes f.body
  kind : field (frameBytes f) 6 1 / 32 = (kindCodes f.body).1
  sub : field (frameBytes f) 6 1 / 8 % 4 = (kindCodes f.body).2

theorem frameRead {f : AirFrame} (wf : wfHeader (heardHeader f) = true) : FrameRead f := by
  obtain ⟨first, sender, origin, seq, kind, epoch, time, length⟩ := headerFields wf
  have hop : f.hop < 4 := by
    simp only [wfHeader, fitsBits, Bool.and_eq_true, decide_eq_true_eq] at wf
    obtain ⟨⟨⟨⟨⟨-, hop⟩, -⟩, -⟩, -⟩, -⟩ := wf
    exact hop
  obtain ⟨zone, hops, relay, timeSet⟩ := zone_parts f.zone f.relay f.timeSet hop
  obtain ⟨main, sub, cls⟩ := kind_parts f.body f.cls
  constructor
  case length => rw [length, length_frameBytes]; exact fun differs => differs rfl
  case header =>
    simp only [readHeader, heardHeader, first, sender, origin, seq, kind, epoch, time, length, zone, hops, relay,
        timeSet, cls,
      Nat.mul_div_cancel _ (show 0 < 8 by decide)]
  case body =>
    rw [frameBytes, beforeCheck_withCheck]
    exact List.drop_left' (by simp [headerBytes])
  case kind => rw [kind, main]
  case sub => rw [kind, sub]

/-! ### CLAIM and ROUND bodies -/

/-- 10.2: the fields of a CLAIM body, as they were written. -/
structure ClaimFields (idSeq serial day key openTime allowance attempt : Nat) (bs : List Byte) : Prop where
  idSeq : field bs 0 2 = idSeq
  serial : field bs 2 4 = serial
  day : field bs 6 2 = day
  key : field bs 8 4 = key
  openTime : field bs 12 4 = openTime
  allowance : field bs 16 1 / 32 = allowance
  attempt : field bs 16 1 / 8 % 4 = attempt

theorem claimFields {idSeq serial day key openTime allowance attempt : Nat} (wf : wfClaim idSeq serial day key = true)
    (opened : openTime < 4294967296) (allowed : allowance < 8) (attempted : attempt < 4) :
    ClaimFields idSeq serial day key openTime allowance attempt (claimBytes idSeq serial day key openTime allowance attempt) := by
  simp only [wfClaim, fitsWord, fitsLong, wordSpan, longSpan, Bool.and_eq_true, decide_eq_true_eq] at wf
  obtain ⟨⟨⟨idSeqFits, serialFits⟩, dayFits⟩, keyFits⟩ := wf
  have last : field (claimBytes idSeq serial day key openTime allowance attempt) 16 1 = allowance * 32 + attempt * 8 := by
    simp (disch := omega) only [claimBytes, List.flatten_cons, field_beyond, field_written, Nat.reduceSub]
  constructor
  case allowance => rw [last]; omega
  case attempt => rw [last]; omega
  all_goals simp (disch := omega) only [claimBytes, List.flatten_cons, field_beyond, field_written, Nat.reduceSub]

/-- 10.2: the fields of a ROUND body, as they were written. -/
structure RoundFields (id : RoundId) (collector : Option Nat) (e : RoundEntry) (bs : List Byte) : Prop where
  id : readRoundId bs = id
  collector : collectorOf (field bs 5 4) = collector
  entry : readEntry bs = e

theorem collectorOf_getD {c : Option Nat} (present : c ≠ some 0) : collectorOf (c.getD 0) = c := by
  cases c with
  | none => rfl
  | some n =>
    have nonzero : n ≠ 0 := fun zero => present (congrArg some zero)
    exact if_neg nonzero

theorem roundFields {id : RoundId} {collector : Option Nat} {e : RoundEntry} (wf : wfRoundId id = true)
    (collects : wfCollector collector = true) (filed : wfEntry e = true) :
    RoundFields id collector e (roundBytes id collector e) := by
  simp only [wfRoundId, wfEntry, wfCollector, fitsByte, fitsLong, byteSpan, longSpan, Bool.and_eq_true,
    decide_eq_true_eq] at wf filed collects
  obtain ⟨time, station⟩ := wf
  obtain ⟨⟨⟨place, lastAt⟩, items⟩, value⟩ := filed
  obtain ⟨fits, present⟩ := collects
  have fits : collector.getD 0 < 4294967296 := by
    cases held : collector with
    | none => decide
    | some n => simpa [held, fitsLong] using fits
  constructor
  case collector =>
    have read : field (roundBytes id collector e) 5 4 = collector.getD 0 := by
      simp (disch := omega) only [roundBytes, List.flatten_cons, field_beyond, field_written, Nat.reduceSub]
    rw [read, collectorOf_getD present]
  case id =>
    simp (disch := omega) only [readRoundId, roundBytes, List.flatten_cons, field_beyond, field_written, Nat.reduceSub]
  case entry =>
    simp (disch := omega) only [readEntry, roundBytes, List.flatten_cons, field_beyond, field_written, Nat.reduceSub]

/-! ### The frames -/

/-- Settles O54. -/
theorem claimAndRoundFramesReadBack : Obligations.ClaimAndRoundFramesReadBack := by
  intro f wf
  obtain ⟨length, header, body, kind, sub⟩ := frameRead wf
  refine ⟨checkRight_withCheck _, fun b eq fits => ?opened, fun b eq fits => ?firm, fun b eq fits => ?released,
    fun b eq fits => ?begun, fun b eq fits => ?filed, fun b eq fits => ?closed⟩
  all_goals
    rw [eq] at body kind sub
    simp only [kindCodes, bodyBytes] at body kind sub
    simp only [Instr.wf, wfOpen, fitsBits, fitsLong, longSpan, Bool.and_eq_true, decide_eq_true_eq] at fits
  case opened =>
    obtain ⟨-, ⟨⟨claim, opened⟩, allowed⟩, attempted⟩ := fits
    obtain ⟨idSeq, serial, day, key, openTime, allowance, attempt⟩ := claimFields claim opened allowed attempted
    simp only [readAir, length, header, body, kind, sub, idSeq, serial, day, key, openTime, allowance, attempt, if_false]
  case firm =>
    obtain ⟨⟨-, claim⟩, opened⟩ := fits
    obtain ⟨idSeq, serial, day, key, openTime, -, -⟩ := claimFields (allowance := 0) (attempt := 0) claim opened
        (by decide) (by decide)
    simp only [readAir, length, header, body, kind, sub, idSeq, serial, day, key, openTime, if_false]
  case released =>
    obtain ⟨-, claim⟩ := fits
    obtain ⟨idSeq, serial, day, key, -, -, -⟩ := claimFields (openTime := 0) (allowance := 0) (attempt := 0) claim (by decide)
      (by decide) (by decide)
    simp only [readAir, length, header, body, kind, sub, idSeq, serial, day, key, if_false]
  case begun =>
    obtain ⟨⟨-, id⟩, collector⟩ := fits
    obtain ⟨id, collector, -⟩ := roundFields id collector (e := noEntry) rfl
    simp only [readAir, length, header, body, kind, sub, id, collector, if_false]
  case filed =>
    obtain ⟨⟨⟨-, id⟩, collector⟩, entry⟩ := fits
    obtain ⟨id, collector, entry⟩ := roundFields id collector entry
    simp only [readAir, length, header, body, kind, sub, id, collector, entry, if_false]
  case closed =>
    obtain ⟨-, id⟩ := fits
    obtain ⟨id, -, -⟩ := roundFields id (collector := none) (e := noEntry) rfl rfl
    simp only [readAir, length, header, body, kind, sub, id, if_false]

end Sys2Proof.Machine

/-! PROOF. What an expiry of the status timer queues (R17, R93, R145). -/

namespace Sys2Proof.Machine

/-! ### Own frames that join the queue -/

/-- From s to t one own frame at most, its body as p says, joined the queue, and the fault unit stands. -/
structure Joined (p : QueuedBody → Prop) (s t : State) : Prop where
  queue : ∃ q, t.chan.queue = s.chan.queue ++ q ∧ q.length ≤ 1 ∧ ∀ e ∈ q, p e.body
  faults : t.faults = s.faults

namespace Joined
variable {p : QueuedBody → Prop} {s t : State}

theorem refl (p : QueuedBody → Prop) (s : State) : Joined p s s :=
  ⟨⟨[], (List.append_nil _).symm, Nat.zero_le _, fun _ mem => absurd mem List.not_mem_nil⟩, rfl⟩

theorem length (h : Joined p s t) : t.chan.queue.length ≤ s.chan.queue.length + 1 := by
  obtain ⟨q, queue, one, -⟩ := h.queue
  rw [queue, List.length_append]
  omega

theorem mem (h : Joined p s t) {e : TxEntry} (held : e ∈ s.chan.queue) : e ∈ t.chan.queue := by
  obtain ⟨q, queue, -⟩ := h.queue
  rw [queue]
  exact List.mem_append_left q held

theorem of_mem (h : Joined p s t) {e : TxEntry} (held : e ∈ t.chan.queue) : e ∈ s.chan.queue ∨ p e.body := by
  obtain ⟨q, queue, -, bodies⟩ := h.queue
  rw [queue] at held
  exact (List.mem_append.1 held).imp_right (bodies e)

/-- A frame of another body that joins is none that waits. -/
theorem waits (h : Joined p s t) {kind : TxEntry → Bool} (other : ∀ e : TxEntry, p e.body → kind e = false) :
    (t.chan.queue.any fun e => kind e && !e.sending) = s.chan.queue.any fun e => kind e && !e.sending := by
  obtain ⟨q, queue, -, bodies⟩ := h.queue
  have none : (q.any fun e => kind e && !e.sending) = false := by
    rw [List.any_eq_false]
    intro e mem
    simp [other e (bodies e mem)]
  rw [queue, List.any_append, none, Bool.or_false]

end Joined

section Handed
variable {s : State} {b : QueuedBody}

/-- R9: a frame of class RECORD or BULK, and any frame into a queue with room, joins the queue, or the queue stands. -/
theorem joined_handOwn (calm : ¬ (b.cls = .urgent ∨ b.cls = .claim) ∨ s.chan.queue.length < 16) :
    Joined (· = b) s (s.handOwn b).1 ∧ (s.handOwn b).1.stay = s.stay := by
  unfold State.handOwn
  split
  · exact ⟨.refl _ s, rfl⟩
  split
  · exact ⟨.refl _ s, rfl⟩
  split
  · exact ⟨⟨⟨[_], rfl, Nat.le_refl 1, fun e mem => by rw [List.mem_singleton.1 mem]⟩, rfl⟩, rfl⟩
  next full =>
  rw [if_neg (calm.resolve_right full)]
  exact ⟨.refl _ s, rfl⟩

theorem handOwn_joins {r : Running} (b : QueuedBody) (running : s.link.running = some r) (onChannel : r.number ≠ 0)
    (room : s.chan.queue.length < 16) : ∃ seq, ownEntry b r.number seq ∈ (s.handOwn b).1.chan.queue := by
  rw [handOwn_eq_of_room b running onChannel room]
  exact ⟨_, List.mem_append_right s.chan.queue (List.mem_singleton.2 rfl)⟩

end Handed

/-! ### The own STATUS (R17) -/

theorem joined_queueStatus (s : State) : Joined (· = .status) s s.queueStatus ∧ s.queueStatus.stay = s.stay := by
  unfold State.queueStatus
  split
  · exact joined_handOwn (.inl (by simp [QueuedBody.cls]))
  · exact ⟨.refl _ s, rfl⟩

theorem queueStatus_waits {s : State} {r : Running} (running : s.link.running = some r) (onChannel : r.number ≠ 0)
    (room : s.chan.queue.length < 16) : ∃ e ∈ s.queueStatus.chan.queue, e.isOwnStatus = true ∧ e.sending = false := by
  cases waits : s.chan.queue.any fun e => e.isOwnStatus && !e.sending with
  | true =>
    obtain ⟨e, mem, own⟩ := List.any_eq_true.1 waits
    exact ⟨e, (joined_queueStatus s).1.mem mem, by simpa using own⟩
  | false =>
    have hands : s.queueStatus = (s.handOwn .status).1 := by
      simp [State.queueStatus, State.onChannel, running, onChannel, waits]
    obtain ⟨seq, mem⟩ := handOwn_joins .status running onChannel room
    exact ⟨_, hands ▸ mem, rfl, rfl⟩

/-! ### The re-announcement (R93) -/

/-- R93: the cursor after a re-announcement. -/
def State.cursorNext (s : State) : Option TableKey :=
  ((secondPass s.stay s.now).getLast?.map fun e => tableKey e.record).or s.stay.cursor

theorem moveCursor_eq (s : State) : s.moveCursor = s.setStay { s.stay with cursor := s.cursorNext } := by
  unfold State.moveCursor State.cursorNext
  cases (secondPass s.stay s.now).getLast? <;> rfl

theorem handBulk_eq (s : State) (rs : List StayRecord) :
    s.handBulk rs = (s.handOwn (.stay rs true)).1 ∨ s.handBulk rs = (s.handOwn (.stay rs true)).1.announced rs := by
  unfold State.handBulk
  split
  next eq => exact .inr (by rw [eq])
  next eq => exact .inl (by rw [eq])

theorem onlyReports_handBulk (s : State) (rs : List StayRecord) : OnlyReports s (s.handBulk rs) := by
  have handed := onlyReports_handOwn s (.stay rs true)
  obtain eq | eq := handBulk_eq s rs
  · exact eq ▸ handed
  · exact eq ▸ handed.trans (onlyReports_marks _ _ fun x => by split <;> rfl)

theorem joined_handBulk (s : State) (rs : List StayRecord) : Joined (· = .stay rs true) s (s.handBulk rs) := by
  have handed := (joined_handOwn (s := s) (b := .stay rs true) (.inl (by simp [QueuedBody.cls]))).1
  obtain eq | eq := handBulk_eq s rs
  · exact eq ▸ handed
  · exact eq ▸ ⟨handed.queue, handed.faults⟩

/-- R93: what a re-announcement leaves: but for the cursor, what the handing of a frame leaves. -/
theorem reannounce_frame (s : State) :
    OnlyReports (s.setStay { s.stay with cursor := s.reannounce.stay.cursor }) s.reannounce ∧
      Joined (fun b => ∃ rs, b = .stay rs true) s s.reannounce ∧
      s.reannounce.stay.cursor =
        if (s.chan.queue.any fun e => e.isOwnBulkStay && !e.sending) then s.stay.cursor else s.cursorNext := by
  cases waits : s.chan.queue.any fun e => e.isOwnBulkStay && !e.sending with
  | true =>
    have stands : s.reannounce = s := if_pos waits
    rw [stands]
    exact ⟨.refl s, .refl _ s, rfl⟩
  | false =>
    rw [reannounce_of_none_waiting waits, moveCursor_eq]
    split
    · have same := Joined.refl (fun b => ∃ rs, b = .stay rs true) s
      exact ⟨.refl _, ⟨same.queue, rfl⟩, rfl⟩
    · have reports := onlyReports_handBulk (s.setStay { s.stay with cursor := s.cursorNext }) s.announcement
      have joined := joined_handBulk (s.setStay { s.stay with cursor := s.cursorNext }) s.announcement
      obtain ⟨q, queue, one, bodies⟩ := joined.queue
      have cursor := reports.cursor
      refine ⟨?_, ⟨⟨q, queue, one, fun e mem => ⟨_, bodies e mem⟩⟩, joined.faults⟩, cursor⟩
      rw [cursor]
      exact reports

theorem reannounce_hands {s : State} {r : Running} (running : s.link.running = some r) (onChannel : r.number ≠ 0)
    (room : s.chan.queue.length < 16) (waits : (s.chan.queue.any fun e => e.isOwnBulkStay && !e.sending) = false)
    (some : s.announcement ≠ []) :
    ∃ seq, ownEntry (.stay s.announcement true) r.number seq ∈ s.reannounce.chan.queue := by
  rw [reannounce_of_none_waiting waits, if_neg (by simpa using some), moveCursor_eq]
  obtain ⟨seq, mem⟩ := handOwn_joins (s := s.setStay { s.stay with cursor := s.cursorNext })
      (.stay s.announcement true) running
    onChannel room
  obtain eq | eq := handBulk_eq (s.setStay { s.stay with cursor := s.cursorNext }) s.announcement
  · exact ⟨seq, eq ▸ mem⟩
  · exact ⟨seq, eq ▸ mem⟩

/-! ### The own round entry (R145) -/

theorem joined_handEntry {s : State} (room : s.chan.queue.length < 16) :
    Joined (fun b => ∃ x, b = .roundEntry x) s s.handEntry := by
  unfold State.handEntry
  split
  · exact .refl _ s
  split
  · split
    · obtain ⟨⟨q, queue, one, bodies⟩, faults⟩ := (joined_handOwn (s := s) (.inr room)).1
      exact ⟨⟨q, queue, one, fun e mem => ⟨_, bodies e mem⟩⟩, faults⟩
    · exact .refl _ s
  · exact .refl _ s

theorem joined_reannounceEntry {s : State} (room : s.chan.queue.length < 16) :
    Joined (fun b => ∃ x, b = .roundEntry x) s s.reannounceEntry := by
  unfold State.reannounceEntry
  split
  · exact .refl _ s
  · exact joined_handEntry room

theorem onlyReports_reannounceEntry (s : State) : OnlyReports s s.reannounceEntry := by
  unfold State.reannounceEntry
  split
  · exact .refl s
  · exact onlyReports_handEntry s

/-- R145: an own ROUND ENTRY frame of the OPEN round waits after it; none having waited, it is that of the own entry. -/
theorem reannounceEntry_waits {s : State} {r : Running} {x : Round} {y : RoundEntry} (running : s.link.running = some r)
    (onChannel : r.number ≠ 0) (room : s.chan.queue.length < 16) (round : s.ret.round = some x) (isOpen : x.isOpen = true)
    (filed : x.entryOf r.number = some y) :
    ∃ e ∈ s.reannounceEntry.chan.queue, e.isOwnRoundEntry = true ∧ e.sending = false ∧
      ((∀ e' ∈ s.chan.queue, e'.isOwnRoundEntry = false ∨ e'.sending = true) →
        e.body = .roundEntry { id := x.id, collector := x.collector, entry := y }) := by
  cases waits : s.chan.queue.any fun e => e.isOwnRoundEntry && !e.sending with
  | true =>
    obtain ⟨e, mem, own⟩ := List.any_eq_true.1 waits
    have own : e.isOwnRoundEntry = true ∧ e.sending = false := by simpa using own
    refine ⟨e, (joined_reannounceEntry room).mem mem, own.1, own.2, fun none => ?_⟩
    rcases none e mem with e' | e' <;> simp [own] at e'
  | false =>
    have hands : s.reannounceEntry = (s.handOwn (.roundEntry { id := x.id, collector := x.collector, entry := y })).1 := by
      simp [State.reannounceEntry, waits, State.handEntry, round, own_of_running running, filed, isOpen]
    obtain ⟨seq, mem⟩ := handOwn_joins (.roundEntry { id := x.id, collector := x.collector, entry := y }) running
      onChannel room
    exact ⟨_, hands ▸ mem, rfl, rfl, fun _ => rfl⟩

end Sys2Proof.Machine

/-! PROOF. The expiries of the link controller's timers (O52). -/

namespace Sys2Proof.Machine

/-! ### Deferred reports offered (R156) -/

theorem deferredReports_congr {s t : State} (h : t.faults = s.faults) : t.deferredReports = s.deferredReports := by
  rw [State.deferredReports, State.deferredReports, h]

theorem offerDeferred_of_none {s : State} (none : s.deferredReports = []) : s.offerDeferred = s := by
  rw [State.offerDeferred, none]
  rfl

/-- R156: the one deferred report, at a station that is no sink and whose queue has room, leaves its entry for the queue. -/
theorem offerDeferred_of_one {s : State} {r : Running} {d : MadeReport} (running : s.link.running = some r)
    (onChannel : r.number ≠ 0) (noSink : r.config.sink = false) (room : s.chan.queue.length < 16)
    (table : s.faults.table.length = 22) (one : s.deferredReports = [d]) :
    (s.offerDeferred.faultEntry d.report.kind).lastReported = some s.ret.clock.time ∧
      (s.offerDeferred.faultEntry d.report.kind).deferred = none ∧
      ∃ seq, ownEntry (.fault d.made { d.report with origin := r.number }) r.number seq ∈ s.offerDeferred.chan.queue := by
  have sink : s.isSink = false := (isSink_of_running running).trans noSink
  have handed := handOwn_eq_of_room (.fault d.made { d.report with origin := r.number }) running onChannel room
  generalize queued : (s.setRet { s.ret with seq := (s.ret.seq + 1) % 65536 }).setQueue
    (s.chan.queue ++ [ownEntry (.fault d.made { d.report with origin := r.number }) r.number ((s.ret.seq + 1) % 65536)]) = u
    at handed
  have offered : s.offerDeferred = (u.markReported d.made d.report).setFaultEntry d.report.kind
      { (u.markReported d.made d.report).faultEntry d.report.kind with deferred := none } := by
    simp [State.offerDeferred, one, State.offerAll, State.offerOne, sink, own_of_running running, handed]
  have length : u.faults.table.length = 22 := by rw [← queued]; exact table
  have clock : u.ret.clock = s.ret.clock := by rw [← queued]; rfl
  have marked := faultEntry_setFaultEntry_self (s := u) (k := d.report.kind)
    { u.faultEntry d.report.kind with
      lastReported := some u.now, lastAdmitted := some (max d.made ((u.faultEntry d.report.kind).lastAdmitted.getD 0))
      deferred := (u.faultEntry d.report.kind).deferred.filter fun x => !x.givesWay d.made d.report }
    (length ▸ faultCode_lt d.report.kind)
  have left := faultEntry_setFaultEntry_self (s := u.markReported d.made d.report) (k := d.report.kind)
    { (u.markReported d.made d.report).faultEntry d.report.kind with deferred := none }
    (((onlyReports_markReported u d.made d.report).tableLength.trans length) ▸ faultCode_lt d.report.kind)
  rw [offered, left]
  refine ⟨?_, rfl, (s.ret.seq + 1) % 65536, ?_⟩
  · exact (congrArg FaultEntry.lastReported marked : _).trans (congrArg some (congrArg Clock.time clock))
  · show _ ∈ u.chan.queue
    rw [← queued]
    exact List.mem_append_right s.chan.queue (List.mem_singleton.2 rfl)

/-! ### The status timer -/

/-- R17: the state with the status timer started again. -/
def State.statusRestarted (s : State) (r : Running) : State :=
  s.setChan { s.chan with statusTimer := some r.config.statusPeriod }

/-- R17, R93, R145: the state once the frames of the expiry are handed. -/
def State.statusSent (s : State) (r : Running) : State := (s.statusRestarted r).queueStatus.reannounce.reannounceEntry

theorem OnlyReports.setCursor {s t : State} (h : OnlyReports s t) (c : Option TableKey) :
    OnlyReports (s.setStay { s.stay with cursor := c }) (t.setStay { t.stay with cursor := c }) :=
  ⟨⟨⟨h.supply, h.ret, h.chan, h.day, h.staging, h.walk, h.records, rfl, h.permits, h.cash, h.liveness, h.quiet, h.link,
    h.pending⟩, h.cores, h.queueRoom, h.inboxRoom⟩, h.service⟩

section Status
variable {s : State} {r : Running}

/-- R17, R93, R145: what the frames handed at an expiry leave: but for the timer and the cursor, what a handing leaves. -/
theorem statusSent_frame (s : State) (r : Running) :
    OnlyReports ((s.statusRestarted r).setStay { s.stay with cursor := (s.statusSent r).stay.cursor }) (s.statusSent r) ∧
      (s.statusSent r).stay.cursor =
        if (s.chan.queue.any fun e => e.isOwnBulkStay && !e.sending) then s.stay.cursor else s.cursorNext := by
  let u := s.statusRestarted r
  obtain ⟨status, stay⟩ := joined_queueStatus u
  have queued := onlyReports_queueStatus u
  obtain ⟨reports, -, cursor⟩ := reannounce_frame u.queueStatus
  have entry := onlyReports_reannounceEntry u.queueStatus.reannounce
  have moved : (s.statusSent r).stay.cursor = u.queueStatus.reannounce.stay.cursor := entry.cursor
  have clock : u.queueStatus.now = s.now := congrArg Clock.time queued.clock
  have next : u.queueStatus.cursorNext = s.cursorNext := by
    rw [State.cursorNext, stay, clock]
    rfl
  refine ⟨?_, ?_⟩
  · rw [moved]
    exact ((queued.setCursor _).trans reports).trans entry
  · rw [moved, cursor, status.waits fun e body => by simp [TxEntry.isOwnBulkStay, body], stay, next]
    rfl

theorem statusExpiry_eq (running : s.link.running = some r) (ran : s.chan.statusTimer.isSome = true) :
    s.statusExpiry = if (s.statusSent r).chan.distance < 7 then (s.statusSent r).offerDeferred else s.statusSent r := by
  obtain ⟨left, timer⟩ := Option.isSome_iff_exists.1 ran
  simp only [State.statusExpiry, timer, running]
  rfl

/-- R17, R93, R145: with room the frames of an expiry join the queue, and the deferred reports stand. -/
structure Sent (s t : State) (r : Running) : Prop where
  status : ∃ e ∈ t.chan.queue, e.isOwnStatus = true ∧ e.sending = false
  stay : (s.chan.queue.any fun e => e.isOwnBulkStay && !e.sending) = false → s.announcement ≠ [] →
    ∃ seq, ownEntry (.stay s.announcement true) r.number seq ∈ t.chan.queue
  entry : ∀ x y, s.ret.round = some x → x.isOpen = true → x.entryOf r.number = some y →
    ∃ e ∈ t.chan.queue, e.isOwnRoundEntry = true ∧ e.sending = false ∧
      ((∀ e' ∈ s.chan.queue, e'.isOwnRoundEntry = false ∨ e'.sending = true) →
        e.body = .roundEntry { id := x.id, collector := x.collector, entry := y })
  faults : t.faults = s.faults
  length : t.chan.queue.length ≤ s.chan.queue.length + 3

theorem sent_statusSent (running : s.link.running = some r) (onChannel : r.number ≠ 0) (room : s.chan.queue.length ≤ 13) :
    Sent s (s.statusSent r) r := by
  have running₀ : (s.statusRestarted r).link.running = some r := running
  have queue₀ : (s.statusRestarted r).chan.queue = s.chan.queue := rfl
  have round₀ : (s.statusRestarted r).ret.round = s.ret.round := rfl
  have announced₀ : (s.statusRestarted r).announcement = s.announcement := rfl
  have faults₀ : (s.statusRestarted r).faults = s.faults := rfl
  change Sent s (s.statusRestarted r).queueStatus.reannounce.reannounceEntry r
  generalize s.statusRestarted r = a at *
  -- The own STATUS.
  obtain ⟨joinedB, stayB⟩ := joined_queueStatus a
  have reportsB := onlyReports_queueStatus a
  have statusB := queueStatus_waits running₀ onChannel (by rw [queue₀]; omega)
  have announcedB : a.queueStatus.announcement = a.announcement := by
    have clock : a.queueStatus.now = a.now := congrArg Clock.time reportsB.clock
    rw [State.announcement, State.announcement, stayB, clock]
  generalize a.queueStatus = b at *
  -- The re-announcement.
  have runningB : b.link.running = some r := reportsB.running.trans running₀
  have lengthB := joinedB.length
  obtain ⟨reportsC, joinedC, -⟩ := reannounce_frame b
  have handsC := reannounce_hands runningB onChannel (by rw [queue₀] at lengthB; omega)
  generalize b.reannounce = c at *
  -- The own round entry.
  have runningC : c.link.running = some r := reportsC.running.trans runningB
  have lengthC := joinedC.length
  rw [queue₀] at lengthB
  have roomC : c.chan.queue.length < 16 := by omega
  have joinedD := joined_reannounceEntry roomC
  have lengthD := joinedD.length
  constructor
  case status =>
    obtain ⟨e, mem, own⟩ := statusB
    exact ⟨e, joinedD.mem (joinedC.mem mem), own⟩
  case stay =>
    intro waits announced
    rw [← queue₀, ← joinedB.waits fun e body => by simp [TxEntry.isOwnBulkStay, body]] at waits
    rw [← announced₀, ← announcedB] at announced ⊢
    obtain ⟨seq, mem⟩ := handsC waits announced
    exact ⟨seq, joinedD.mem mem⟩
  case entry =>
    intro x y round isOpen filed
    have roundC : c.ret.round = some x := by
      rw [reportsC.round]
      exact reportsB.round.trans (round₀.trans round)
    obtain ⟨e, mem, own, waits, body⟩ := reannounceEntry_waits runningC onChannel roomC roundC isOpen filed
    refine ⟨e, mem, own, waits, fun none => body fun e' held => ?_⟩
    rcases joinedC.of_mem held with held | ⟨rs, stay⟩
    · rcases joinedB.of_mem held with held | status
      · exact none e' (queue₀ ▸ held)
      · exact .inl (by simp [TxEntry.isOwnRoundEntry, status])
    · exact .inl (by simp [TxEntry.isOwnRoundEntry, stay])
  case faults => exact joinedD.faults.trans (joinedC.faults.trans (joinedB.faults.trans faults₀))
  case length => omega

end Status

/-! ### A neighbour's timers -/

section Neighbours
variable {s : State} {n : Nat}

theorem neighbour_setNeighbour_at (e : Neighbour) (first : 1 ≤ n) (last : n ≤ s.chan.neighbours.length) :
    (s.setNeighbour n e).neighbour n = e := by
  have inside : n - 1 < s.chan.neighbours.length := by omega
  simp [State.neighbour, List.getD_eq_getElem?_getD, inside]

/-- R21, R22: after an entry's change the entry stands and the distance is the one the entries give. -/
theorem neighboursChanged_entry (e : Neighbour) (first : 1 ≤ n) (last : n ≤ s.chan.neighbours.length) :
    ((s.setNeighbour n e).neighboursChanged).neighbour n = e ∧
      ((s.setNeighbour n e).neighboursChanged).chan.distance = ((s.setNeighbour n e).neighboursChanged).distanceNow ∧
      ((s.setNeighbour n e).neighboursChanged).ret.clock = s.ret.clock ∧
      ((s.setNeighbour n e).neighboursChanged).permits = s.permits := by
  have changed := sameBut_neighboursChanged (s.setNeighbour n e)
  have neighbours : ((s.setNeighbour n e).neighboursChanged).chan.neighbours = (s.setNeighbour n e).chan.neighbours :=
    changed.neighbours
  have running : ((s.setNeighbour n e).neighboursChanged).link.running = (s.setNeighbour n e).link.running := changed.running
  refine ⟨(neighbour_of_neighbours neighbours n).trans (neighbour_setNeighbour_at e first last), ?_, changed.clock,
      changed.permits⟩
  obtain ⟨q, chan⟩ := changed.chan
  rw [distanceNow_congr running neighbours, chan]
  rfl

end Neighbours

/-- Settles O52. -/
theorem linkTimersExpire : Obligations.LinkTimersExpire := by
  refine ⟨fun s r power running ran => ?status, fun s n power first last => ⟨fun ran => ?direct, fun ran => ?silence⟩,
    fun s power ran => ?duplicate⟩
  case status =>
    have step := statusExpiry_eq running ran
    obtain ⟨frame, cursor⟩ := statusSent_frame s r
    have sent (onChannel : r.number ≠ 0) (room : s.chan.queue.length ≤ 13) := sent_statusSent running onChannel room
    generalize s.statusSent r = u at step frame cursor sent
    have after : OnlyReports u s.statusExpiry := by
      rw [step]
      split
      · exact onlyReports_offerDeferred u
      · exact .refl u
    have whole := frame.trans after
    have stands (onChannel : r.number ≠ 0) (room : s.chan.queue.length ≤ 13) (none : s.deferredReports = []) :
        s.statusExpiry = u := by
      rw [step, offerDeferred_of_none ((deferredReports_congr (sent onChannel room).faults).trans none), ite_self]
    refine ⟨_, congrArg Host.Outcome.next (whilePowered_of_power power _), ?_, whole.neighbours, whole.clock, whole.permits,
      whole.cash, whole.records, fun onChannel room none => ?own, ⟨?cursor, fun onChannel room none waits announced => ?stay⟩,
      fun x y round isOpen filed onChannel room none => ?entry, fun onChannel noSink near room table d one => ?offered⟩
    · obtain ⟨q, chan⟩ := whole.chan
      exact (congrArg ChannelBlock.statusTimer chan : _)
    case own =>
      rw [stands onChannel room none]
      exact (sent onChannel room).status
    case cursor =>
      have moved : s.statusExpiry.settle.stay.cursor = u.stay.cursor := after.cursor
      rw [moved, cursor]
      refine if_congr Iff.rfl rfl ?_
      split
      next e last =>
        have last : (secondPass s.stay s.now).getLast? = some e := last
        rw [State.cursorNext, last]
        rfl
      next last =>
        have last : (secondPass s.stay s.now).getLast? = none := last
        rw [State.cursorNext, last]
        rfl
    case stay =>
      rw [stands onChannel room none]
      obtain ⟨seq, mem⟩ := (sent onChannel room).stay waits fun empty => announced empty
      exact ⟨_, mem, rfl, rfl, rfl, rfl, rfl⟩
    case entry =>
      rw [stands onChannel room none]
      exact (sent onChannel room).entry x y round isOpen filed
    case offered =>
      have handed := sent onChannel (by omega)
      have distance : u.chan.distance = s.chan.distance := by
        obtain ⟨q, chan⟩ := frame.chan
        rw [chan]
        rfl
      have offers : s.statusExpiry = u.offerDeferred := by rw [step, if_pos (by rw [distance]; exact near)]
      have runningU : u.link.running = some r := frame.running.trans running
      obtain ⟨reported, deferred, seq, mem⟩ := offerDeferred_of_one runningU onChannel noSink
        (by have := handed.length; omega) (by rw [handed.faults]; exact table)
        ((deferredReports_congr handed.faults).trans one)
      have clock : u.ret.clock = s.ret.clock := frame.clock
      rw [offers]
      exact ⟨reported.trans (by rw [clock]), deferred, _, mem, rfl, rfl, rfl⟩
  case direct =>
    obtain ⟨entry, distance, clock, permits⟩ := neighboursChanged_entry (s.neighbour n).directOver first last
    have expired : s.directExpiry n = (s.setNeighbour n (s.neighbour n).directOver).neighboursChanged :=
      if_neg (by simp [Option.isSome_iff_ne_none.1 ran])
    refine ⟨_, congrArg Host.Outcome.next (whilePowered_of_power power _), ?_⟩
    rw [expired]
    exact ⟨entry, distance.trans (distanceNow_congr (settle_running _) rfl).symm, clock, permits⟩
  case silence =>
    obtain ⟨entry, distance, clock, permits⟩ := neighboursChanged_entry Neighbour.initial first last
    have expired : s.silenceExpiry n = (s.setNeighbour n Neighbour.initial).neighboursChanged :=
      if_neg (by simp [Option.isSome_iff_ne_none.1 ran])
    refine ⟨_, congrArg Host.Outcome.next (whilePowered_of_power power _), ?_⟩
    rw [expired]
    exact ⟨entry, distance.trans (distanceNow_congr (settle_running _) rfl).symm, clock, permits⟩
  case duplicate =>
    have expired : s.duplicateOver = (s.setDuplicateTimer none).clear .duplicateStation :=
      if_neg (by simp [Option.isSome_iff_ne_none.1 ran])
    have same := sameBut_clear (s.setDuplicateTimer none) .duplicateStation
    refine ⟨_, congrArg Host.Outcome.next (whilePowered_of_power power _), ?_⟩
    rw [expired]
    obtain ⟨q, chan⟩ := same.chan
    refine ⟨?_, clearIf_inactive _ true _, same.clock, same.permits, same.cash⟩
    exact (congrArg ChannelBlock.duplicateTimer chan : _)

end Sys2Proof.Machine
